-- ==== Sys2Proof/Word.lean ====
section
/-! DEFINITION. The two word types of the hardware (00_scope.md R10). -/

namespace Sys2Proof

/-- A data byte, an opcode byte, or one of A, X, Y, S. -/
abbrev Byte := BitVec 8

/-- A 16-bit address on the memory port, or PC. -/
abbrev Addr := BitVec 16

end Sys2Proof
end

