-- ==== Sys2Proof/Syntax.lean ====
section
/-! DEFINITION. The abstract syntax: addressing modes (40_addressing.md), mnemonics and instructions
(30_encoding.md R94 to R97). One constructor of `Instr` per documented row of spec/opcode_table.json; the 105 rows of
mnemonic UNDOC, alike but for their byte, are the one constructor `undoc`. -/

namespace Sys2Proof

/-- The nine addressing modes that yield an effective address, with their operand bytes assembled
(R93: `op8` as a byte, `{hi, lo}` as a 16-bit word). -/
inductive MemMode where
  /-- Zero-Page (R124). -/
  | zp (b : Byte)
  /-- Zero-Page,X (R125). -/
  | zpx (b : Byte)
  /-- Zero-Page,Y (R126). -/
  | zpy (b : Byte)
  /-- Absolute (R128). -/
  | abs (w : Addr)
  /-- Absolute,X (R129). -/
  | abx (w : Addr)
  /-- Absolute,Y (R130). -/
  | aby (w : Addr)
  /-- Indirect, used only by JMP (R132). -/
  | ind (w : Addr)
  /-- Indirect,X, pre-indexed (R133). -/
  | inx (b : Byte)
  /-- Indirect,Y, post-indexed (R134). -/
  | iny (b : Byte)
  deriving DecidableEq, Repr

/-- Where a read-type instruction takes its operand byte from: the instruction itself (R123) or memory. -/
inductive Source where
  | imm (v : Byte)
  | mem (m : MemMode)
  deriving DecidableEq, Repr

/-- The 13 addressing modes (R92): Implicit, Accumulator, Immediate, Relative and the nine of `MemMode`. -/
inductive Mode where
  /-- Implicit (R121). -/
  | imp
  /-- Accumulator (R122). -/
  | acc
  /-- Immediate (R123). -/
  | imm (v : Byte)
  /-- Relative (R127); `off` is the offset byte, read signed. -/
  | rel (off : Byte)
  | mem (m : MemMode)
  deriving DecidableEq, Repr

/-- The short names of the 13 modes (R92). -/
inductive ModeName where
  | imp | acc | imm | zp | zpx | zpy | rel | abs | abx | aby | ind | inx | iny
  deriving DecidableEq, Repr

/-- The short name of a mode (R92). -/
def Mode.name : Mode → ModeName
  | .imp => .imp
  | .acc => .acc
  | .imm _ => .imm
  | .rel _ => .rel
  | .mem (.zp _) => .zp
  | .mem (.zpx _) => .zpx
  | .mem (.zpy _) => .zpy
  | .mem (.abs _) => .abs
  | .mem (.abx _) => .abx
  | .mem (.aby _) => .aby
  | .mem (.ind _) => .ind
  | .mem (.inx _) => .inx
  | .mem (.iny _) => .iny

/-- The mnemonics of the opcode table (R96), and UNDOC (R97). -/
inductive Mnemonic where
  | lda | ldx | ldy | sta | stx | sty
  | adc | sbc
  | and | ora | eor | bit | asl | lsr | rol | ror
  | cmp | cpx | cpy
  | inc | dec | inx | dex | iny | dey
  | bpl | bmi | bvc | bvs | bcc | bcs | bne | beq
  | jmp | jsr | rts
  | pha | pla | php | plp | tsx | txs | tax | tay | txa | tya
  | clc | sec | cli | sei | cld | sed | clv | nop | brk | rti
  | undoc
  deriving DecidableEq, Repr

/-- An instruction with its operand bytes assembled. -/
inductive Instr where
  /-- `A9 nn` LDA #nn (R150, R123). -/
  | ldaImm (v : Byte)
  /-- `A5 nn` LDA nn (R150, R124). -/
  | ldaZp (b : Byte)
  /-- `B5 nn` LDA nn,X (R150, R125). -/
  | ldaZpx (b : Byte)
  /-- `AD ll hh` LDA hhll (R150, R128). -/
  | ldaAbs (w : Addr)
  /-- `BD ll hh` LDA hhll,X (R150, R129). -/
  | ldaAbx (w : Addr)
  /-- `B9 ll hh` LDA hhll,Y (R150, R130). -/
  | ldaAby (w : Addr)
  /-- `A1 nn` LDA (nn,X) (R150, R133). -/
  | ldaInx (b : Byte)
  /-- `B1 nn` LDA (nn),Y (R150, R134). -/
  | ldaIny (b : Byte)
  /-- `A2 nn` LDX #nn (R151, R123). -/
  | ldxImm (v : Byte)
  /-- `A6 nn` LDX nn (R151, R124). -/
  | ldxZp (b : Byte)
  /-- `B6 nn` LDX nn,Y (R151, R126). -/
  | ldxZpy (b : Byte)
  /-- `AE ll hh` LDX hhll (R151, R128). -/
  | ldxAbs (w : Addr)
  /-- `BE ll hh` LDX hhll,Y (R151, R130). -/
  | ldxAby (w : Addr)
  /-- `A0 nn` LDY #nn (R152, R123). -/
  | ldyImm (v : Byte)
  /-- `A4 nn` LDY nn (R152, R124). -/
  | ldyZp (b : Byte)
  /-- `B4 nn` LDY nn,X (R152, R125). -/
  | ldyZpx (b : Byte)
  /-- `AC ll hh` LDY hhll (R152, R128). -/
  | ldyAbs (w : Addr)
  /-- `BC ll hh` LDY hhll,X (R152, R129). -/
  | ldyAbx (w : Addr)
  /-- `85 nn` STA nn (R153, R124). -/
  | staZp (b : Byte)
  /-- `95 nn` STA nn,X (R153, R125). -/
  | staZpx (b : Byte)
  /-- `8D ll hh` STA hhll (R153, R128). -/
  | staAbs (w : Addr)
  /-- `9D ll hh` STA hhll,X (R153, R129). -/
  | staAbx (w : Addr)
  /-- `99 ll hh` STA hhll,Y (R153, R130). -/
  | staAby (w : Addr)
  /-- `81 nn` STA (nn,X) (R153, R133). -/
  | staInx (b : Byte)
  /-- `91 nn` STA (nn),Y (R153, R134). -/
  | staIny (b : Byte)
  /-- `86 nn` STX nn (R154, R124). -/
  | stxZp (b : Byte)
  /-- `96 nn` STX nn,Y (R154, R126). -/
  | stxZpy (b : Byte)
  /-- `8E ll hh` STX hhll (R154, R128). -/
  | stxAbs (w : Addr)
  /-- `84 nn` STY nn (R155, R124). -/
  | styZp (b : Byte)
  /-- `94 nn` STY nn,X (R155, R125). -/
  | styZpx (b : Byte)
  /-- `8C ll hh` STY hhll (R155, R128). -/
  | styAbs (w : Addr)
  /-- `69 nn` ADC #nn (R170, R123). -/
  | adcImm (v : Byte)
  /-- `65 nn` ADC nn (R170, R124). -/
  | adcZp (b : Byte)
  /-- `75 nn` ADC nn,X (R170, R125). -/
  | adcZpx (b : Byte)
  /-- `6D ll hh` ADC hhll (R170, R128). -/
  | adcAbs (w : Addr)
  /-- `7D ll hh` ADC hhll,X (R170, R129). -/
  | adcAbx (w : Addr)
  /-- `79 ll hh` ADC hhll,Y (R170, R130). -/
  | adcAby (w : Addr)
  /-- `61 nn` ADC (nn,X) (R170, R133). -/
  | adcInx (b : Byte)
  /-- `71 nn` ADC (nn),Y (R170, R134). -/
  | adcIny (b : Byte)
  /-- `E9 nn` SBC #nn (R174, R123). -/
  | sbcImm (v : Byte)
  /-- `E5 nn` SBC nn (R174, R124). -/
  | sbcZp (b : Byte)
  /-- `F5 nn` SBC nn,X (R174, R125). -/
  | sbcZpx (b : Byte)
  /-- `ED ll hh` SBC hhll (R174, R128). -/
  | sbcAbs (w : Addr)
  /-- `FD ll hh` SBC hhll,X (R174, R129). -/
  | sbcAbx (w : Addr)
  /-- `F9 ll hh` SBC hhll,Y (R174, R130). -/
  | sbcAby (w : Addr)
  /-- `E1 nn` SBC (nn,X) (R174, R133). -/
  | sbcInx (b : Byte)
  /-- `F1 nn` SBC (nn),Y (R174, R134). -/
  | sbcIny (b : Byte)
  /-- `29 nn` AND #nn (R190, R123). -/
  | andImm (v : Byte)
  /-- `25 nn` AND nn (R190, R124). -/
  | andZp (b : Byte)
  /-- `35 nn` AND nn,X (R190, R125). -/
  | andZpx (b : Byte)
  /-- `2D ll hh` AND hhll (R190, R128). -/
  | andAbs (w : Addr)
  /-- `3D ll hh` AND hhll,X (R190, R129). -/
  | andAbx (w : Addr)
  /-- `39 ll hh` AND hhll,Y (R190, R130). -/
  | andAby (w : Addr)
  /-- `21 nn` AND (nn,X) (R190, R133). -/
  | andInx (b : Byte)
  /-- `31 nn` AND (nn),Y (R190, R134). -/
  | andIny (b : Byte)
  /-- `09 nn` ORA #nn (R191, R123). -/
  | oraImm (v : Byte)
  /-- `05 nn` ORA nn (R191, R124). -/
  | oraZp (b : Byte)
  /-- `15 nn` ORA nn,X (R191, R125). -/
  | oraZpx (b : Byte)
  /-- `0D ll hh` ORA hhll (R191, R128). -/
  | oraAbs (w : Addr)
  /-- `1D ll hh` ORA hhll,X (R191, R129). -/
  | oraAbx (w : Addr)
  /-- `19 ll hh` ORA hhll,Y (R191, R130). -/
  | oraAby (w : Addr)
  /-- `01 nn` ORA (nn,X) (R191, R133). -/
  | oraInx (b : Byte)
  /-- `11 nn` ORA (nn),Y (R191, R134). -/
  | oraIny (b : Byte)
  /-- `49 nn` EOR #nn (R192, R123). -/
  | eorImm (v : Byte)
  /-- `45 nn` EOR nn (R192, R124). -/
  | eorZp (b : Byte)
  /-- `55 nn` EOR nn,X (R192, R125). -/
  | eorZpx (b : Byte)
  /-- `4D ll hh` EOR hhll (R192, R128). -/
  | eorAbs (w : Addr)
  /-- `5D ll hh` EOR hhll,X (R192, R129). -/
  | eorAbx (w : Addr)
  /-- `59 ll hh` EOR hhll,Y (R192, R130). -/
  | eorAby (w : Addr)
  /-- `41 nn` EOR (nn,X) (R192, R133). -/
  | eorInx (b : Byte)
  /-- `51 nn` EOR (nn),Y (R192, R134). -/
  | eorIny (b : Byte)
  /-- `24 nn` BIT nn (R193, R124). -/
  | bitZp (b : Byte)
  /-- `2C ll hh` BIT hhll (R193, R128). -/
  | bitAbs (w : Addr)
  /-- `0A` ASL A (R195, R122). -/
  | aslAcc
  /-- `06 nn` ASL nn (R195, R124). -/
  | aslZp (b : Byte)
  /-- `16 nn` ASL nn,X (R195, R125). -/
  | aslZpx (b : Byte)
  /-- `0E ll hh` ASL hhll (R195, R128). -/
  | aslAbs (w : Addr)
  /-- `1E ll hh` ASL hhll,X (R195, R129). -/
  | aslAbx (w : Addr)
  /-- `4A` LSR A (R196, R122). -/
  | lsrAcc
  /-- `46 nn` LSR nn (R196, R124). -/
  | lsrZp (b : Byte)
  /-- `56 nn` LSR nn,X (R196, R125). -/
  | lsrZpx (b : Byte)
  /-- `4E ll hh` LSR hhll (R196, R128). -/
  | lsrAbs (w : Addr)
  /-- `5E ll hh` LSR hhll,X (R196, R129). -/
  | lsrAbx (w : Addr)
  /-- `2A` ROL A (R197, R122). -/
  | rolAcc
  /-- `26 nn` ROL nn (R197, R124). -/
  | rolZp (b : Byte)
  /-- `36 nn` ROL nn,X (R197, R125). -/
  | rolZpx (b : Byte)
  /-- `2E ll hh` ROL hhll (R197, R128). -/
  | rolAbs (w : Addr)
  /-- `3E ll hh` ROL hhll,X (R197, R129). -/
  | rolAbx (w : Addr)
  /-- `6A` ROR A (R198, R122). -/
  | rorAcc
  /-- `66 nn` ROR nn (R198, R124). -/
  | rorZp (b : Byte)
  /-- `76 nn` ROR nn,X (R198, R125). -/
  | rorZpx (b : Byte)
  /-- `6E ll hh` ROR hhll (R198, R128). -/
  | rorAbs (w : Addr)
  /-- `7E ll hh` ROR hhll,X (R198, R129). -/
  | rorAbx (w : Addr)
  /-- `C9 nn` CMP #nn (R211, R123). -/
  | cmpImm (v : Byte)
  /-- `C5 nn` CMP nn (R211, R124). -/
  | cmpZp (b : Byte)
  /-- `D5 nn` CMP nn,X (R211, R125). -/
  | cmpZpx (b : Byte)
  /-- `CD ll hh` CMP hhll (R211, R128). -/
  | cmpAbs (w : Addr)
  /-- `DD ll hh` CMP hhll,X (R211, R129). -/
  | cmpAbx (w : Addr)
  /-- `D9 ll hh` CMP hhll,Y (R211, R130). -/
  | cmpAby (w : Addr)
  /-- `C1 nn` CMP (nn,X) (R211, R133). -/
  | cmpInx (b : Byte)
  /-- `D1 nn` CMP (nn),Y (R211, R134). -/
  | cmpIny (b : Byte)
  /-- `E0 nn` CPX #nn (R212, R123). -/
  | cpxImm (v : Byte)
  /-- `E4 nn` CPX nn (R212, R124). -/
  | cpxZp (b : Byte)
  /-- `EC ll hh` CPX hhll (R212, R128). -/
  | cpxAbs (w : Addr)
  /-- `C0 nn` CPY #nn (R213, R123). -/
  | cpyImm (v : Byte)
  /-- `C4 nn` CPY nn (R213, R124). -/
  | cpyZp (b : Byte)
  /-- `CC ll hh` CPY hhll (R213, R128). -/
  | cpyAbs (w : Addr)
  /-- `E6 nn` INC nn (R221, R124). -/
  | incZp (b : Byte)
  /-- `F6 nn` INC nn,X (R221, R125). -/
  | incZpx (b : Byte)
  /-- `EE ll hh` INC hhll (R221, R128). -/
  | incAbs (w : Addr)
  /-- `FE ll hh` INC hhll,X (R221, R129). -/
  | incAbx (w : Addr)
  /-- `C6 nn` DEC nn (R222, R124). -/
  | decZp (b : Byte)
  /-- `D6 nn` DEC nn,X (R222, R125). -/
  | decZpx (b : Byte)
  /-- `CE ll hh` DEC hhll (R222, R128). -/
  | decAbs (w : Addr)
  /-- `DE ll hh` DEC hhll,X (R222, R129). -/
  | decAbx (w : Addr)
  /-- `E8` INX (R223, R121). -/
  | inx
  /-- `CA` DEX (R224, R121). -/
  | dex
  /-- `C8` INY (R225, R121). -/
  | iny
  /-- `88` DEY (R226, R121). -/
  | dey
  /-- `10 nn` BPL *+2+off (R232, R127). -/
  | bpl (off : Byte)
  /-- `30 nn` BMI *+2+off (R233, R127). -/
  | bmi (off : Byte)
  /-- `50 nn` BVC *+2+off (R234, R127). -/
  | bvc (off : Byte)
  /-- `70 nn` BVS *+2+off (R235, R127). -/
  | bvs (off : Byte)
  /-- `90 nn` BCC *+2+off (R236, R127). -/
  | bcc (off : Byte)
  /-- `B0 nn` BCS *+2+off (R237, R127). -/
  | bcs (off : Byte)
  /-- `D0 nn` BNE *+2+off (R238, R127). -/
  | bne (off : Byte)
  /-- `F0 nn` BEQ *+2+off (R239, R127). -/
  | beq (off : Byte)
  /-- `4C ll hh` JMP hhll (R250, R128). -/
  | jmpAbs (w : Addr)
  /-- `6C ll hh` JMP (hhll) (R251, R132). -/
  | jmpInd (w : Addr)
  /-- `20 ll hh` JSR hhll (R252, R128). -/
  | jsr (w : Addr)
  /-- `60` RTS (R253, R121). -/
  | rts
  /-- `48` PHA (R260, R121). -/
  | pha
  /-- `68` PLA (R261, R121). -/
  | pla
  /-- `08` PHP (R262, R121). -/
  | php
  /-- `28` PLP (R264, R121). -/
  | plp
  /-- `BA` TSX (R266, R121). -/
  | tsx
  /-- `9A` TXS (R267, R121). -/
  | txs
  /-- `AA` TAX (R268, R121). -/
  | tax
  /-- `A8` TAY (R269, R121). -/
  | tay
  /-- `8A` TXA (R270, R121). -/
  | txa
  /-- `98` TYA (R271, R121). -/
  | tya
  /-- `18` CLC (R280, R121). -/
  | clc
  /-- `38` SEC (R281, R121). -/
  | sec
  /-- `58` CLI (R282, R121). -/
  | cli
  /-- `78` SEI (R283, R121). -/
  | sei
  /-- `D8` CLD (R284, R121). -/
  | cld
  /-- `F8` SED (R285, R121). -/
  | sed
  /-- `B8` CLV (R286, R121). -/
  | clv
  /-- `EA` NOP (R287, R121). -/
  | nop
  /-- `00` BRK (R289, R121). -/
  | brk
  /-- `40` RTI (R290, R121). -/
  | rti
  /-- One of the 105 undocumented opcode bytes `op` of R97 (R291, R292). -/
  | undoc (op : Byte)
  deriving DecidableEq, Repr

/-- The mnemonic of an instruction's row (R96). -/
def Instr.mnemonic : Instr → Mnemonic
  | .ldaImm _ => .lda
  | .ldaZp _ => .lda
  | .ldaZpx _ => .lda
  | .ldaAbs _ => .lda
  | .ldaAbx _ => .lda
  | .ldaAby _ => .lda
  | .ldaInx _ => .lda
  | .ldaIny _ => .lda
  | .ldxImm _ => .ldx
  | .ldxZp _ => .ldx
  | .ldxZpy _ => .ldx
  | .ldxAbs _ => .ldx
  | .ldxAby _ => .ldx
  | .ldyImm _ => .ldy
  | .ldyZp _ => .ldy
  | .ldyZpx _ => .ldy
  | .ldyAbs _ => .ldy
  | .ldyAbx _ => .ldy
  | .staZp _ => .sta
  | .staZpx _ => .sta
  | .staAbs _ => .sta
  | .staAbx _ => .sta
  | .staAby _ => .sta
  | .staInx _ => .sta
  | .staIny _ => .sta
  | .stxZp _ => .stx
  | .stxZpy _ => .stx
  | .stxAbs _ => .stx
  | .styZp _ => .sty
  | .styZpx _ => .sty
  | .styAbs _ => .sty
  | .adcImm _ => .adc
  | .adcZp _ => .adc
  | .adcZpx _ => .adc
  | .adcAbs _ => .adc
  | .adcAbx _ => .adc
  | .adcAby _ => .adc
  | .adcInx _ => .adc
  | .adcIny _ => .adc
  | .sbcImm _ => .sbc
  | .sbcZp _ => .sbc
  | .sbcZpx _ => .sbc
  | .sbcAbs _ => .sbc
  | .sbcAbx _ => .sbc
  | .sbcAby _ => .sbc
  | .sbcInx _ => .sbc
  | .sbcIny _ => .sbc
  | .andImm _ => .and
  | .andZp _ => .and
  | .andZpx _ => .and
  | .andAbs _ => .and
  | .andAbx _ => .and
  | .andAby _ => .and
  | .andInx _ => .and
  | .andIny _ => .and
  | .oraImm _ => .ora
  | .oraZp _ => .ora
  | .oraZpx _ => .ora
  | .oraAbs _ => .ora
  | .oraAbx _ => .ora
  | .oraAby _ => .ora
  | .oraInx _ => .ora
  | .oraIny _ => .ora
  | .eorImm _ => .eor
  | .eorZp _ => .eor
  | .eorZpx _ => .eor
  | .eorAbs _ => .eor
  | .eorAbx _ => .eor
  | .eorAby _ => .eor
  | .eorInx _ => .eor
  | .eorIny _ => .eor
  | .bitZp _ => .bit
  | .bitAbs _ => .bit
  | .aslAcc => .asl
  | .aslZp _ => .asl
  | .aslZpx _ => .asl
  | .aslAbs _ => .asl
  | .aslAbx _ => .asl
  | .lsrAcc => .lsr
  | .lsrZp _ => .lsr
  | .lsrZpx _ => .lsr
  | .lsrAbs _ => .lsr
  | .lsrAbx _ => .lsr
  | .rolAcc => .rol
  | .rolZp _ => .rol
  | .rolZpx _ => .rol
  | .rolAbs _ => .rol
  | .rolAbx _ => .rol
  | .rorAcc => .ror
  | .rorZp _ => .ror
  | .rorZpx _ => .ror
  | .rorAbs _ => .ror
  | .rorAbx _ => .ror
  | .cmpImm _ => .cmp
  | .cmpZp _ => .cmp
  | .cmpZpx _ => .cmp
  | .cmpAbs _ => .cmp
  | .cmpAbx _ => .cmp
  | .cmpAby _ => .cmp
  | .cmpInx _ => .cmp
  | .cmpIny _ => .cmp
  | .cpxImm _ => .cpx
  | .cpxZp _ => .cpx
  | .cpxAbs _ => .cpx
  | .cpyImm _ => .cpy
  | .cpyZp _ => .cpy
  | .cpyAbs _ => .cpy
  | .incZp _ => .inc
  | .incZpx _ => .inc
  | .incAbs _ => .inc
  | .incAbx _ => .inc
  | .decZp _ => .dec
  | .decZpx _ => .dec
  | .decAbs _ => .dec
  | .decAbx _ => .dec
  | .inx => .inx
  | .dex => .dex
  | .iny => .iny
  | .dey => .dey
  | .bpl _ => .bpl
  | .bmi _ => .bmi
  | .bvc _ => .bvc
  | .bvs _ => .bvs
  | .bcc _ => .bcc
  | .bcs _ => .bcs
  | .bne _ => .bne
  | .beq _ => .beq
  | .jmpAbs _ => .jmp
  | .jmpInd _ => .jmp
  | .jsr _ => .jsr
  | .rts => .rts
  | .pha => .pha
  | .pla => .pla
  | .php => .php
  | .plp => .plp
  | .tsx => .tsx
  | .txs => .txs
  | .tax => .tax
  | .tay => .tay
  | .txa => .txa
  | .tya => .tya
  | .clc => .clc
  | .sec => .sec
  | .cli => .cli
  | .sei => .sei
  | .cld => .cld
  | .sed => .sed
  | .clv => .clv
  | .nop => .nop
  | .brk => .brk
  | .rti => .rti
  | .undoc _ => .undoc

/-- The addressing mode of an instruction's row with its operand (R92, R96); an undocumented opcode is Implicit. -/
def Instr.mode : Instr → Mode
  | .ldaImm v => .imm v
  | .ldaZp b => .mem (.zp b)
  | .ldaZpx b => .mem (.zpx b)
  | .ldaAbs w => .mem (.abs w)
  | .ldaAbx w => .mem (.abx w)
  | .ldaAby w => .mem (.aby w)
  | .ldaInx b => .mem (.inx b)
  | .ldaIny b => .mem (.iny b)
  | .ldxImm v => .imm v
  | .ldxZp b => .mem (.zp b)
  | .ldxZpy b => .mem (.zpy b)
  | .ldxAbs w => .mem (.abs w)
  | .ldxAby w => .mem (.aby w)
  | .ldyImm v => .imm v
  | .ldyZp b => .mem (.zp b)
  | .ldyZpx b => .mem (.zpx b)
  | .ldyAbs w => .mem (.abs w)
  | .ldyAbx w => .mem (.abx w)
  | .staZp b => .mem (.zp b)
  | .staZpx b => .mem (.zpx b)
  | .staAbs w => .mem (.abs w)
  | .staAbx w => .mem (.abx w)
  | .staAby w => .mem (.aby w)
  | .staInx b => .mem (.inx b)
  | .staIny b => .mem (.iny b)
  | .stxZp b => .mem (.zp b)
  | .stxZpy b => .mem (.zpy b)
  | .stxAbs w => .mem (.abs w)
  | .styZp b => .mem (.zp b)
  | .styZpx b => .mem (.zpx b)
  | .styAbs w => .mem (.abs w)
  | .adcImm v => .imm v
  | .adcZp b => .mem (.zp b)
  | .adcZpx b => .mem (.zpx b)
  | .adcAbs w => .mem (.abs w)
  | .adcAbx w => .mem (.abx w)
  | .adcAby w => .mem (.aby w)
  | .adcInx b => .mem (.inx b)
  | .adcIny b => .mem (.iny b)
  | .sbcImm v => .imm v
  | .sbcZp b => .mem (.zp b)
  | .sbcZpx b => .mem (.zpx b)
  | .sbcAbs w => .mem (.abs w)
  | .sbcAbx w => .mem (.abx w)
  | .sbcAby w => .mem (.aby w)
  | .sbcInx b => .mem (.inx b)
  | .sbcIny b => .mem (.iny b)
  | .andImm v => .imm v
  | .andZp b => .mem (.zp b)
  | .andZpx b => .mem (.zpx b)
  | .andAbs w => .mem (.abs w)
  | .andAbx w => .mem (.abx w)
  | .andAby w => .mem (.aby w)
  | .andInx b => .mem (.inx b)
  | .andIny b => .mem (.iny b)
  | .oraImm v => .imm v
  | .oraZp b => .mem (.zp b)
  | .oraZpx b => .mem (.zpx b)
  | .oraAbs w => .mem (.abs w)
  | .oraAbx w => .mem (.abx w)
  | .oraAby w => .mem (.aby w)
  | .oraInx b => .mem (.inx b)
  | .oraIny b => .mem (.iny b)
  | .eorImm v => .imm v
  | .eorZp b => .mem (.zp b)
  | .eorZpx b => .mem (.zpx b)
  | .eorAbs w => .mem (.abs w)
  | .eorAbx w => .mem (.abx w)
  | .eorAby w => .mem (.aby w)
  | .eorInx b => .mem (.inx b)
  | .eorIny b => .mem (.iny b)
  | .bitZp b => .mem (.zp b)
  | .bitAbs w => .mem (.abs w)
  | .aslAcc => .acc
  | .aslZp b => .mem (.zp b)
  | .aslZpx b => .mem (.zpx b)
  | .aslAbs w => .mem (.abs w)
  | .aslAbx w => .mem (.abx w)
  | .lsrAcc => .acc
  | .lsrZp b => .mem (.zp b)
  | .lsrZpx b => .mem (.zpx b)
  | .lsrAbs w => .mem (.abs w)
  | .lsrAbx w => .mem (.abx w)
  | .rolAcc => .acc
  | .rolZp b => .mem (.zp b)
  | .rolZpx b => .mem (.zpx b)
  | .rolAbs w => .mem (.abs w)
  | .rolAbx w => .mem (.abx w)
  | .rorAcc => .acc
  | .rorZp b => .mem (.zp b)
  | .rorZpx b => .mem (.zpx b)
  | .rorAbs w => .mem (.abs w)
  | .rorAbx w => .mem (.abx w)
  | .cmpImm v => .imm v
  | .cmpZp b => .mem (.zp b)
  | .cmpZpx b => .mem (.zpx b)
  | .cmpAbs w => .mem (.abs w)
  | .cmpAbx w => .mem (.abx w)
  | .cmpAby w => .mem (.aby w)
  | .cmpInx b => .mem (.inx b)
  | .cmpIny b => .mem (.iny b)
  | .cpxImm v => .imm v
  | .cpxZp b => .mem (.zp b)
  | .cpxAbs w => .mem (.abs w)
  | .cpyImm v => .imm v
  | .cpyZp b => .mem (.zp b)
  | .cpyAbs w => .mem (.abs w)
  | .incZp b => .mem (.zp b)
  | .incZpx b => .mem (.zpx b)
  | .incAbs w => .mem (.abs w)
  | .incAbx w => .mem (.abx w)
  | .decZp b => .mem (.zp b)
  | .decZpx b => .mem (.zpx b)
  | .decAbs w => .mem (.abs w)
  | .decAbx w => .mem (.abx w)
  | .inx => .imp
  | .dex => .imp
  | .iny => .imp
  | .dey => .imp
  | .bpl off => .rel off
  | .bmi off => .rel off
  | .bvc off => .rel off
  | .bvs off => .rel off
  | .bcc off => .rel off
  | .bcs off => .rel off
  | .bne off => .rel off
  | .beq off => .rel off
  | .jmpAbs w => .mem (.abs w)
  | .jmpInd w => .mem (.ind w)
  | .jsr w => .mem (.abs w)
  | .rts => .imp
  | .pha => .imp
  | .pla => .imp
  | .php => .imp
  | .plp => .imp
  | .tsx => .imp
  | .txs => .imp
  | .tax => .imp
  | .tay => .imp
  | .txa => .imp
  | .tya => .imp
  | .clc => .imp
  | .sec => .imp
  | .cli => .imp
  | .sei => .imp
  | .cld => .imp
  | .sed => .imp
  | .clv => .imp
  | .nop => .imp
  | .brk => .imp
  | .rti => .imp
  | .undoc _ => .imp

end Sys2Proof
end

