-- ==== Sys2Proof/Decode.lean ====
section
/-! DEFINITION. The decoder (30_encoding.md R90 to R99), total on every byte list, and after it the encoder. -/

namespace Sys2Proof

/-- `{hi, lo}` (R12, R93). -/
def pairAddr (hi lo : Byte) : Addr := hi ++ lo

/-- `hi(w) = w[15:8]`, which is also `page(w)` (R12). -/
def hiByte (w : Addr) : Byte := w.extractLsb' 8 8

/-- `lo(w) = w[7:0]` (R12). -/
def loByte (w : Addr) : Byte := w.extractLsb' 0 8

/-- What an opcode byte still needs: nothing (format F1), one operand byte (F2), or the two bytes of a 16-bit operand,
low byte first (F3) (R91). -/
inductive Format where
  | f1 (i : Instr)
  | f2 (k : Byte → Instr)
  | f3 (k : Addr → Instr)

/-- Row 0x of the opcode matrix (R95), by the low nibble. -/
def opcodeRow0 (op : Byte) : Nat → Format
  | 0x0 => .f1 .brk
  | 0x1 => .f2 Instr.oraInx
  | 0x5 => .f2 Instr.oraZp
  | 0x6 => .f2 Instr.aslZp
  | 0x8 => .f1 .php
  | 0x9 => .f2 Instr.oraImm
  | 0xA => .f1 .aslAcc
  | 0xD => .f3 Instr.oraAbs
  | 0xE => .f3 Instr.aslAbs
  | _ => .f1 (.undoc op)

/-- Row 1x of the opcode matrix (R95), by the low nibble. -/
def opcodeRow1 (op : Byte) : Nat → Format
  | 0x0 => .f2 Instr.bpl
  | 0x1 => .f2 Instr.oraIny
  | 0x5 => .f2 Instr.oraZpx
  | 0x6 => .f2 Instr.aslZpx
  | 0x8 => .f1 .clc
  | 0x9 => .f3 Instr.oraAby
  | 0xD => .f3 Instr.oraAbx
  | 0xE => .f3 Instr.aslAbx
  | _ => .f1 (.undoc op)

/-- Row 2x of the opcode matrix (R95), by the low nibble. -/
def opcodeRow2 (op : Byte) : Nat → Format
  | 0x0 => .f3 Instr.jsr
  | 0x1 => .f2 Instr.andInx
  | 0x4 => .f2 Instr.bitZp
  | 0x5 => .f2 Instr.andZp
  | 0x6 => .f2 Instr.rolZp
  | 0x8 => .f1 .plp
  | 0x9 => .f2 Instr.andImm
  | 0xA => .f1 .rolAcc
  | 0xC => .f3 Instr.bitAbs
  | 0xD => .f3 Instr.andAbs
  | 0xE => .f3 Instr.rolAbs
  | _ => .f1 (.undoc op)

/-- Row 3x of the opcode matrix (R95), by the low nibble. -/
def opcodeRow3 (op : Byte) : Nat → Format
  | 0x0 => .f2 Instr.bmi
  | 0x1 => .f2 Instr.andIny
  | 0x5 => .f2 Instr.andZpx
  | 0x6 => .f2 Instr.rolZpx
  | 0x8 => .f1 .sec
  | 0x9 => .f3 Instr.andAby
  | 0xD => .f3 Instr.andAbx
  | 0xE => .f3 Instr.rolAbx
  | _ => .f1 (.undoc op)

/-- Row 4x of the opcode matrix (R95), by the low nibble. -/
def opcodeRow4 (op : Byte) : Nat → Format
  | 0x0 => .f1 .rti
  | 0x1 => .f2 Instr.eorInx
  | 0x5 => .f2 Instr.eorZp
  | 0x6 => .f2 Instr.lsrZp
  | 0x8 => .f1 .pha
  | 0x9 => .f2 Instr.eorImm
  | 0xA => .f1 .lsrAcc
  | 0xC => .f3 Instr.jmpAbs
  | 0xD => .f3 Instr.eorAbs
  | 0xE => .f3 Instr.lsrAbs
  | _ => .f1 (.undoc op)

/-- Row 5x of the opcode matrix (R95), by the low nibble. -/
def opcodeRow5 (op : Byte) : Nat → Format
  | 0x0 => .f2 Instr.bvc
  | 0x1 => .f2 Instr.eorIny
  | 0x5 => .f2 Instr.eorZpx
  | 0x6 => .f2 Instr.lsrZpx
  | 0x8 => .f1 .cli
  | 0x9 => .f3 Instr.eorAby
  | 0xD => .f3 Instr.eorAbx
  | 0xE => .f3 Instr.lsrAbx
  | _ => .f1 (.undoc op)

/-- Row 6x of the opcode matrix (R95), by the low nibble. -/
def opcodeRow6 (op : Byte) : Nat → Format
  | 0x0 => .f1 .rts
  | 0x1 => .f2 Instr.adcInx
  | 0x5 => .f2 Instr.adcZp
  | 0x6 => .f2 Instr.rorZp
  | 0x8 => .f1 .pla
  | 0x9 => .f2 Instr.adcImm
  | 0xA => .f1 .rorAcc
  | 0xC => .f3 Instr.jmpInd
  | 0xD => .f3 Instr.adcAbs
  | 0xE => .f3 Instr.rorAbs
  | _ => .f1 (.undoc op)

/-- Row 7x of the opcode matrix (R95), by the low nibble. -/
def opcodeRow7 (op : Byte) : Nat → Format
  | 0x0 => .f2 Instr.bvs
  | 0x1 => .f2 Instr.adcIny
  | 0x5 => .f2 Instr.adcZpx
  | 0x6 => .f2 Instr.rorZpx
  | 0x8 => .f1 .sei
  | 0x9 => .f3 Instr.adcAby
  | 0xD => .f3 Instr.adcAbx
  | 0xE => .f3 Instr.rorAbx
  | _ => .f1 (.undoc op)

/-- Row 8x of the opcode matrix (R95), by the low nibble. -/
def opcodeRow8 (op : Byte) : Nat → Format
  | 0x1 => .f2 Instr.staInx
  | 0x4 => .f2 Instr.styZp
  | 0x5 => .f2 Instr.staZp
  | 0x6 => .f2 Instr.stxZp
  | 0x8 => .f1 .dey
  | 0xA => .f1 .txa
  | 0xC => .f3 Instr.styAbs
  | 0xD => .f3 Instr.staAbs
  | 0xE => .f3 Instr.stxAbs
  | _ => .f1 (.undoc op)

/-- Row 9x of the opcode matrix (R95), by the low nibble. -/
def opcodeRow9 (op : Byte) : Nat → Format
  | 0x0 => .f2 Instr.bcc
  | 0x1 => .f2 Instr.staIny
  | 0x4 => .f2 Instr.styZpx
  | 0x5 => .f2 Instr.staZpx
  | 0x6 => .f2 Instr.stxZpy
  | 0x8 => .f1 .tya
  | 0x9 => .f3 Instr.staAby
  | 0xA => .f1 .txs
  | 0xD => .f3 Instr.staAbx
  | _ => .f1 (.undoc op)

/-- Row Ax of the opcode matrix (R95), by the low nibble. -/
def opcodeRowA (op : Byte) : Nat → Format
  | 0x0 => .f2 Instr.ldyImm
  | 0x1 => .f2 Instr.ldaInx
  | 0x2 => .f2 Instr.ldxImm
  | 0x4 => .f2 Instr.ldyZp
  | 0x5 => .f2 Instr.ldaZp
  | 0x6 => .f2 Instr.ldxZp
  | 0x8 => .f1 .tay
  | 0x9 => .f2 Instr.ldaImm
  | 0xA => .f1 .tax
  | 0xC => .f3 Instr.ldyAbs
  | 0xD => .f3 Instr.ldaAbs
  | 0xE => .f3 Instr.ldxAbs
  | _ => .f1 (.undoc op)

/-- Row Bx of the opcode matrix (R95), by the low nibble. -/
def opcodeRowB (op : Byte) : Nat → Format
  | 0x0 => .f2 Instr.bcs
  | 0x1 => .f2 Instr.ldaIny
  | 0x4 => .f2 Instr.ldyZpx
  | 0x5 => .f2 Instr.ldaZpx
  | 0x6 => .f2 Instr.ldxZpy
  | 0x8 => .f1 .clv
  | 0x9 => .f3 Instr.ldaAby
  | 0xA => .f1 .tsx
  | 0xC => .f3 Instr.ldyAbx
  | 0xD => .f3 Instr.ldaAbx
  | 0xE => .f3 Instr.ldxAby
  | _ => .f1 (.undoc op)

/-- Row Cx of the opcode matrix (R95), by the low nibble. -/
def opcodeRowC (op : Byte) : Nat → Format
  | 0x0 => .f2 Instr.cpyImm
  | 0x1 => .f2 Instr.cmpInx
  | 0x4 => .f2 Instr.cpyZp
  | 0x5 => .f2 Instr.cmpZp
  | 0x6 => .f2 Instr.decZp
  | 0x8 => .f1 .iny
  | 0x9 => .f2 Instr.cmpImm
  | 0xA => .f1 .dex
  | 0xC => .f3 Instr.cpyAbs
  | 0xD => .f3 Instr.cmpAbs
  | 0xE => .f3 Instr.decAbs
  | _ => .f1 (.undoc op)

/-- Row Dx of the opcode matrix (R95), by the low nibble. -/
def opcodeRowD (op : Byte) : Nat → Format
  | 0x0 => .f2 Instr.bne
  | 0x1 => .f2 Instr.cmpIny
  | 0x5 => .f2 Instr.cmpZpx
  | 0x6 => .f2 Instr.decZpx
  | 0x8 => .f1 .cld
  | 0x9 => .f3 Instr.cmpAby
  | 0xD => .f3 Instr.cmpAbx
  | 0xE => .f3 Instr.decAbx
  | _ => .f1 (.undoc op)

/-- Row Ex of the opcode matrix (R95), by the low nibble. -/
def opcodeRowE (op : Byte) : Nat → Format
  | 0x0 => .f2 Instr.cpxImm
  | 0x1 => .f2 Instr.sbcInx
  | 0x4 => .f2 Instr.cpxZp
  | 0x5 => .f2 Instr.sbcZp
  | 0x6 => .f2 Instr.incZp
  | 0x8 => .f1 .inx
  | 0x9 => .f2 Instr.sbcImm
  | 0xA => .f1 .nop
  | 0xC => .f3 Instr.cpxAbs
  | 0xD => .f3 Instr.sbcAbs
  | 0xE => .f3 Instr.incAbs
  | _ => .f1 (.undoc op)

/-- Row Fx of the opcode matrix (R95), by the low nibble. -/
def opcodeRowF (op : Byte) : Nat → Format
  | 0x0 => .f2 Instr.beq
  | 0x1 => .f2 Instr.sbcIny
  | 0x5 => .f2 Instr.sbcZpx
  | 0x6 => .f2 Instr.incZpx
  | 0x8 => .f1 .sed
  | 0x9 => .f3 Instr.sbcAby
  | 0xD => .f3 Instr.sbcAbx
  | 0xE => .f3 Instr.incAbx
  | _ => .f1 (.undoc op)

/-- The decoder's table of 256 entries (R94, R95): the row by the opcode's high nibble, the column by its low nibble.
Every byte that R96 does not list is an undocumented opcode of format F1 (R97). -/
def formatOf (op : Byte) : Format :=
  match op.toNat / 16 with
  | 0x0 => opcodeRow0 op (op.toNat % 16)
  | 0x1 => opcodeRow1 op (op.toNat % 16)
  | 0x2 => opcodeRow2 op (op.toNat % 16)
  | 0x3 => opcodeRow3 op (op.toNat % 16)
  | 0x4 => opcodeRow4 op (op.toNat % 16)
  | 0x5 => opcodeRow5 op (op.toNat % 16)
  | 0x6 => opcodeRow6 op (op.toNat % 16)
  | 0x7 => opcodeRow7 op (op.toNat % 16)
  | 0x8 => opcodeRow8 op (op.toNat % 16)
  | 0x9 => opcodeRow9 op (op.toNat % 16)
  | 0xA => opcodeRowA op (op.toNat % 16)
  | 0xB => opcodeRowB op (op.toNat % 16)
  | 0xC => opcodeRowC op (op.toNat % 16)
  | 0xD => opcodeRowD op (op.toNat % 16)
  | 0xE => opcodeRowE op (op.toNat % 16)
  | _ => opcodeRowF op (op.toNat % 16)

/-- Why a byte list is no instruction. A machine never meets these: its memory port always answers (R61). -/
inductive DecodeError where
  /-- There is no opcode byte. -/
  | noOpcode
  /-- The list ends before the operand bytes of opcode `op`. -/
  | operandMissing (op : Byte)
  deriving DecidableEq, Repr

/-- Read one instruction off the front of a byte list, lowest address first (R90, R91). -/
def decode : List Byte → Except DecodeError (Instr × List Byte)
  | [] => .error .noOpcode
  | op :: rest =>
    match formatOf op, rest with
    | .f1 i, rest => .ok (i, rest)
    | .f2 k, b :: rest => .ok (k b, rest)
    | .f3 k, lo :: hi :: rest => .ok (k (pairAddr hi lo), rest)
    | _, _ => .error (.operandMissing op)

/-- The bytes of an instruction's mode after its opcode (R91): none, `op8`, or `lo` then `hi`. -/
def Mode.operandBytes : Mode → List Byte
  | .imp | .acc => []
  | .imm v => [v]
  | .rel off => [off]
  | .mem (.zp b) | .mem (.zpx b) | .mem (.zpy b) | .mem (.inx b) | .mem (.iny b) => [b]
  | .mem (.abs w) | .mem (.abx w) | .mem (.aby w) | .mem (.ind w) => [loByte w, hiByte w]

/-- The opcode byte of an instruction (R96). -/
def Instr.opcode : Instr → Byte
  | .ldaImm _ => 0xA9
  | .ldaZp _ => 0xA5
  | .ldaZpx _ => 0xB5
  | .ldaAbs _ => 0xAD
  | .ldaAbx _ => 0xBD
  | .ldaAby _ => 0xB9
  | .ldaInx _ => 0xA1
  | .ldaIny _ => 0xB1
  | .ldxImm _ => 0xA2
  | .ldxZp _ => 0xA6
  | .ldxZpy _ => 0xB6
  | .ldxAbs _ => 0xAE
  | .ldxAby _ => 0xBE
  | .ldyImm _ => 0xA0
  | .ldyZp _ => 0xA4
  | .ldyZpx _ => 0xB4
  | .ldyAbs _ => 0xAC
  | .ldyAbx _ => 0xBC
  | .staZp _ => 0x85
  | .staZpx _ => 0x95
  | .staAbs _ => 0x8D
  | .staAbx _ => 0x9D
  | .staAby _ => 0x99
  | .staInx _ => 0x81
  | .staIny _ => 0x91
  | .stxZp _ => 0x86
  | .stxZpy _ => 0x96
  | .stxAbs _ => 0x8E
  | .styZp _ => 0x84
  | .styZpx _ => 0x94
  | .styAbs _ => 0x8C
  | .adcImm _ => 0x69
  | .adcZp _ => 0x65
  | .adcZpx _ => 0x75
  | .adcAbs _ => 0x6D
  | .adcAbx _ => 0x7D
  | .adcAby _ => 0x79
  | .adcInx _ => 0x61
  | .adcIny _ => 0x71
  | .sbcImm _ => 0xE9
  | .sbcZp _ => 0xE5
  | .sbcZpx _ => 0xF5
  | .sbcAbs _ => 0xED
  | .sbcAbx _ => 0xFD
  | .sbcAby _ => 0xF9
  | .sbcInx _ => 0xE1
  | .sbcIny _ => 0xF1
  | .andImm _ => 0x29
  | .andZp _ => 0x25
  | .andZpx _ => 0x35
  | .andAbs _ => 0x2D
  | .andAbx _ => 0x3D
  | .andAby _ => 0x39
  | .andInx _ => 0x21
  | .andIny _ => 0x31
  | .oraImm _ => 0x09
  | .oraZp _ => 0x05
  | .oraZpx _ => 0x15
  | .oraAbs _ => 0x0D
  | .oraAbx _ => 0x1D
  | .oraAby _ => 0x19
  | .oraInx _ => 0x01
  | .oraIny _ => 0x11
  | .eorImm _ => 0x49
  | .eorZp _ => 0x45
  | .eorZpx _ => 0x55
  | .eorAbs _ => 0x4D
  | .eorAbx _ => 0x5D
  | .eorAby _ => 0x59
  | .eorInx _ => 0x41
  | .eorIny _ => 0x51
  | .bitZp _ => 0x24
  | .bitAbs _ => 0x2C
  | .aslAcc => 0x0A
  | .aslZp _ => 0x06
  | .aslZpx _ => 0x16
  | .aslAbs _ => 0x0E
  | .aslAbx _ => 0x1E
  | .lsrAcc => 0x4A
  | .lsrZp _ => 0x46
  | .lsrZpx _ => 0x56
  | .lsrAbs _ => 0x4E
  | .lsrAbx _ => 0x5E
  | .rolAcc => 0x2A
  | .rolZp _ => 0x26
  | .rolZpx _ => 0x36
  | .rolAbs _ => 0x2E
  | .rolAbx _ => 0x3E
  | .rorAcc => 0x6A
  | .rorZp _ => 0x66
  | .rorZpx _ => 0x76
  | .rorAbs _ => 0x6E
  | .rorAbx _ => 0x7E
  | .cmpImm _ => 0xC9
  | .cmpZp _ => 0xC5
  | .cmpZpx _ => 0xD5
  | .cmpAbs _ => 0xCD
  | .cmpAbx _ => 0xDD
  | .cmpAby _ => 0xD9
  | .cmpInx _ => 0xC1
  | .cmpIny _ => 0xD1
  | .cpxImm _ => 0xE0
  | .cpxZp _ => 0xE4
  | .cpxAbs _ => 0xEC
  | .cpyImm _ => 0xC0
  | .cpyZp _ => 0xC4
  | .cpyAbs _ => 0xCC
  | .incZp _ => 0xE6
  | .incZpx _ => 0xF6
  | .incAbs _ => 0xEE
  | .incAbx _ => 0xFE
  | .decZp _ => 0xC6
  | .decZpx _ => 0xD6
  | .decAbs _ => 0xCE
  | .decAbx _ => 0xDE
  | .inx => 0xE8
  | .dex => 0xCA
  | .iny => 0xC8
  | .dey => 0x88
  | .bpl _ => 0x10
  | .bmi _ => 0x30
  | .bvc _ => 0x50
  | .bvs _ => 0x70
  | .bcc _ => 0x90
  | .bcs _ => 0xB0
  | .bne _ => 0xD0
  | .beq _ => 0xF0
  | .jmpAbs _ => 0x4C
  | .jmpInd _ => 0x6C
  | .jsr _ => 0x20
  | .rts => 0x60
  | .pha => 0x48
  | .pla => 0x68
  | .php => 0x08
  | .plp => 0x28
  | .tsx => 0xBA
  | .txs => 0x9A
  | .tax => 0xAA
  | .tay => 0xA8
  | .txa => 0x8A
  | .tya => 0x98
  | .clc => 0x18
  | .sec => 0x38
  | .cli => 0x58
  | .sei => 0x78
  | .cld => 0xD8
  | .sed => 0xF8
  | .clv => 0xB8
  | .nop => 0xEA
  | .brk => 0x00
  | .rti => 0x40
  | .undoc op => op

/-- The words of an instruction: the opcode, then the operand bytes of its mode (R90, R91). -/
def encode (i : Instr) : List Byte := i.opcode :: i.mode.operandBytes

/-- The length in bytes of an instruction of a mode (R92). -/
def ModeName.length : ModeName → Nat
  | .imp | .acc => 1
  | .imm | .zp | .zpx | .zpy | .rel | .inx | .iny => 2
  | .abs | .abx | .aby | .ind => 3

/-- Byte `k` of an instruction whose `nbits` bits are `w`, bit 0 the least significant bit of the first byte; the bits
above `nbits` are 0. -/
def tableByte (nbits w k : Nat) : Byte := BitVec.ofNat 8 (w % 2 ^ nbits / 2 ^ (8 * k))

/-- The three bytes, the longest instruction's length (R90), of the table's number `w`. -/
def tableBytes (nbits w : Nat) : List Byte := [tableByte nbits w 0, tableByte nbits w 1, tableByte nbits w 2]

/-- The instruction the decoder reads from the table's number `w` of `nbits` bits. -/
def decodeTableWord (nbits w : Nat) : Option Instr :=
  match decode (tableBytes nbits w) with
  | .ok (i, _) => some i
  | .error _ => none

end Sys2Proof
end

