-- ==== Sys2Proof/Machine/Port.lean ====
section
/-! DEFINITION. What passes over the memory port (10_state.md R41, 20_memory.md R62), and which host answers it
(20_memory.md R61, 92_eei_decisions.md D17). -/

namespace Sys2Proof.Machine

/-- The direction of a transaction of the memory port (R41: `we = 0` or `we = 1`). -/
inductive Direction where
  | read
  | write
  deriving DecidableEq, Repr

/-- One transaction of the memory port: its direction, address and byte (R41, R62). -/
structure Access where
  direction : Direction
  addr : Addr
  data : Byte
  deriving DecidableEq, Repr

/-- The parameter `HOST` (D17): who answers the reads. -/
inductive HostKind where
  /-- The special case plain RAM: a read returns the byte last written at its address. -/
  | plainRam
  /-- The general host, under no law: ROM, devices, banking, or anything else behind the port. -/
  | general
  deriving DecidableEq, Repr

end Sys2Proof.Machine
end

