-- ==== Sys2Proof/Config.lean ====
section
/-! DEFINITION. What an implementation fixes, and the free values (00_scope.md R8, R9). The strap `UNDOC_NOP` (R7) is an
input of the block and stands in State. -/

namespace Sys2Proof

/-- `RESET_CYCLES`, the cycle count of the RESET sequence (R8, 70_reset_and_hazards.md R344). -/
def Config.resetCycles : Nat := 7

/-- The byte of the k-th draw: what a RESET leaves in A, X and Y (R9, R341). No body: nothing is known of it. Log 4. -/
opaque Config.freeByte : Nat → Byte

/-- The bit of the k-th draw: what a RESET leaves in N, V, D, Z and C (R9, R342). No body: nothing is known of it. Log 4. -/
opaque Config.freeBit : Nat → Bool

/-- What the general host answers a read at an address with, from the bytes last written at each address and from every
access so far, oldest first: an oracle over the access history (20_memory.md R61, 92_eei_decisions.md D17,
93_implementation_defined.md K7). No body: nothing is known of it. Log 16. -/
opaque Config.hostAnswer : List (Nat × Byte) → List Machine.Access → Addr → Byte

end Sys2Proof
end

