-- ==== Sys2Proof/Machine/State.lean ====
section
/-! DEFINITION. The state of the block as plain data (10_state.md), the reasons a step can stop, and the state right
after reset (70_reset_and_hazards.md R340). -/

namespace Sys2Proof.Machine

/-- The byte last written at each of the 65,536 addresses (R35), by the port or by another chip (R326): the bytes that
differ from what an unlisted address reads as, by rising address. -/
abbrev Memory := List Host.Cell

/-- The run state `RS` (R38). -/
inductive RunState where
  | running
  | stopped (op : Byte)
  deriving DecidableEq, Repr

/-- Every piece of state the spec gives the block (10_state.md section 1), its level and strap inputs, its step outputs,
and the memory behind its port. P has no field: bits 5 and 4 have no storage (R29). -/
structure State where
  /-- The accumulator (R20). -/
  a : Byte
  /-- The index register X (R20). -/
  x : Byte
  /-- The index register Y (R20). -/
  y : Byte
  /-- The stack pointer (R23). -/
  s : Byte
  /-- The program counter (R25). -/
  pc : Addr
  /-- Negative (R28). -/
  n : Bool
  /-- Overflow (R28). -/
  v : Bool
  /-- Decimal (R28). -/
  d : Bool
  /-- Interrupt-disable (R28). -/
  i : Bool
  /-- Zero (R28). -/
  z : Bool
  /-- Carry (R28). -/
  c : Bool
  /-- The NMI edge latch (R36). -/
  nmiPending : Bool
  /-- The input level `irq_line`, owned by the host (R37). -/
  irqLine : Bool
  /-- The strap input `UNDOC_NOP`, constant while the hardware runs (R7). -/
  undocNop : Bool
  /-- The run state (R38). -/
  rs : RunState
  /-- The cycle counter, an unbounded natural number (R11, R39). -/
  cyc : Nat
  /-- The output `cycles_elapsed` of the last step (R43). -/
  cyclesElapsed : Nat
  /-- The transactions of the memory port in the current step, oldest first (R41, R74, R75). -/
  port : List Access
  /-- The parameter `HOST`, constant while the hardware runs (D17). -/
  host : HostKind
  /-- The transactions of the steps before, oldest first: with `port`, the access history the host answers from (R61). -/
  past : List Access
  /-- The bytes last written behind the port (R35, R60): what plain RAM holds. -/
  mem : Memory
  /-- The model's own: how many free values RESET has drawn (log 4). -/
  draws : Nat
  deriving DecidableEq, Repr

/-- Why a step has no next state. -/
inductive Fault where
  /-- Raised by `step` on a `STEP` in `RS = Stopped(op)`: the hardware is stuck and only RESET leaves that state (R316).
  Safe: nothing goes on. -/
  | stopped (op : Byte)
  deriving DecidableEq, Repr

/-- Why an instruction has no meaning. -/
inductive Refusal where
  /-- Raised by an arm of `exec` whose instruction has no meaning in the model yet. Safe. No arm raises it now. -/
  | notModelled (mnemonic : String)
  deriving DecidableEq, Repr

/-- What a step or a meaning answers. -/
abbrev Outcome := Host.Outcome State Fault Refusal

/-- The machine right after the RESET sequence (R340 to R344) over plain RAM (log 1) with nothing listed and no access
before it (log 16). The two vector bytes read as 0x00 (log 2), so PC is 0x0000. A, X, Y, N, V, D, Z, C have no value in
the spec and hold log 3's; `irq_line` is released (log 7); the strap is false (log 6). -/
def State.reset : State where
  a := 0x00
  x := 0x00
  y := 0x00
  s := 0xFD
  pc := 0x0000
  n := false
  v := false
  d := false
  i := true
  z := false
  c := false
  nmiPending := false
  irqLine := false
  undocNop := false
  rs := .running
  cyc := Config.resetCycles
  cyclesElapsed := Config.resetCycles
  port := [⟨.read, 0xFFFC, 0x00⟩, ⟨.read, 0xFFFD, 0x00⟩]
  host := .plainRam
  past := []
  mem := []
  draws := 0

end Sys2Proof.Machine
end

