-- ==== Sys2Proof/Machine/Flags.lean ====
section
/-! DEFINITION. The status register P (10_state.md R28 to R33) and every computation of a result with its flags:
addition and subtraction in both modes (42_arithmetic.md), shifts and rotates (43_logic_shift.md), comparison
(44_compare.md). -/

namespace Sys2Proof.Machine

/-- `Pack(b)`: the byte `{N, V, 1, b, D, I, Z, C}` (R30). -/
def State.pack (s : State) (b : Bool) : Byte :=
  BitVec.ofBool s.n ++ BitVec.ofBool s.v ++ 1#1 ++ BitVec.ofBool b ++
    BitVec.ofBool s.d ++ BitVec.ofBool s.i ++ BitVec.ofBool s.z ++ BitVec.ofBool s.c

/-- `Unpack(v)`: the six flags from bits 7, 6, 3, 2, 1, 0; bits 5 and 4 are dropped (R31). -/
def State.unpack (s : State) (p : Byte) : State :=
  { s with
    n := p.getLsbD 7
    v := p.getLsbD 6
    d := p.getLsbD 3
    i := p.getLsbD 2
    z := p.getLsbD 1
    c := p.getLsbD 0 }

/-- `SetNZ(r)`: `Z` when the byte is 0, `N` from its bit 7 (R33). -/
def State.setNZ (s : State) (r : Byte) : State := { s with n := r.getLsbD 7, z := r == 0 }

/-- The number a flag stands for in a sum: 0 or 1 (R12). -/
def flagNat (b : Bool) : Nat := if b then 1 else 0

/-- A result byte with the overflow and carry it sets; N and Z follow from the byte. -/
structure AluResult where
  value : Byte
  overflow : Bool
  carry : Bool
  deriving DecidableEq, Repr

/-- `A + m + C` on mathematical integers (R171). -/
def binarySum (a m : Byte) (c : Bool) : Nat := a.toNat + m.toNat + flagNat c

/-- The signed-overflow formula of R171, `((~(A ^ m)) & (A ^ sum) & 0x80) != 0`. -/
def signedOverflow (a m : Byte) (sum : Nat) : Bool :=
  (~~~(a ^^^ m) &&& (a ^^^ BitVec.ofNat 8 sum) &&& 0x80) != 0

/-- The low nibble of a byte as a number, `v[3:0]`. -/
def lowNibble (v : Byte) : Nat := v.toNat % 16

/-- The high nibble of a byte as a number, `v[7:4]`. -/
def highNibble (v : Byte) : Nat := v.toNat / 16

/-- `AdcBinary(m)` (R171). -/
def adcBinary (a m : Byte) (c : Bool) : AluResult where
  value := BitVec.ofNat 8 (binarySum a m c)
  overflow := signedOverflow a m (binarySum a m c)
  carry := decide (binarySum a m c > 255)

/-- Correct a nibble sum above 9 by adding 6 (R172). -/
def decimalAdjust (k : Nat) : Nat := if k > 9 then k + 6 else k

/-- `AdcDecimal(m)` (R172): V by the binary rule, each nibble corrected, the carry between nibbles and out of them. -/
def adcDecimal (a m : Byte) (c : Bool) : AluResult :=
  let lo := decimalAdjust (lowNibble a + lowNibble m + flagNat c)
  let hi := decimalAdjust (highNibble a + highNibble m + (if lo > 15 then 1 else 0))
  { value := BitVec.ofNat 8 (hi % 16 * 16 + lo % 16)
    overflow := signedOverflow a m (binarySum a m c)
    carry := decide (hi > 15) }

/-- ADC by the D flag (R170). -/
def adc (d : Bool) (a m : Byte) (c : Bool) : AluResult := if d then adcDecimal a m c else adcBinary a m c

/-- The decimal difference of R175: each nibble corrected by 6 on a borrow. -/
def sbcDecimalValue (a m : Byte) (c : Bool) : Byte :=
  let lo0 : Int := lowNibble a - lowNibble m - (1 - flagNat c)
  let hi0 : Int := highNibble a - highNibble m
  let lo := if lo0 < 0 then lo0 - 6 else lo0
  let hi1 := if lo0 < 0 then hi0 - 1 else hi0
  let hi := if hi1 < 0 then hi1 - 6 else hi1
  BitVec.ofInt 8 (hi % 16 * 16 + lo % 16)

/-- `SbcCommon(m)` (R175): V and C are those of `A + (m ^ 0xFF) + C` in both modes. -/
def sbc (d : Bool) (a m : Byte) (c : Bool) : AluResult :=
  let n := m ^^^ 0xFF
  { value := if d then sbcDecimalValue a m c else BitVec.ofNat 8 (binarySum a n c)
    overflow := signedOverflow a n (binarySum a n c)
    carry := decide (binarySum a n c > 255) }

/-- ASL: bit 7 goes out, 0 comes in (R195). -/
def shiftLeft (v : Byte) (_c : Bool) : Byte × Bool := (v <<< 1, v.getLsbD 7)

/-- LSR: bit 0 goes out, 0 comes in (R196). -/
def shiftRight (v : Byte) (_c : Bool) : Byte × Bool := (v >>> 1, v.getLsbD 0)

/-- ROL: bit 7 goes out, the old carry comes in at bit 0 (R197). -/
def rotateLeft (v : Byte) (c : Bool) : Byte × Bool := (v <<< 1 ||| (BitVec.ofBool c).setWidth 8, v.getLsbD 7)

/-- ROR: bit 0 goes out, the old carry comes in at bit 7 (R198). -/
def rotateRight (v : Byte) (c : Bool) : Byte × Bool :=
  (v >>> 1 ||| (BitVec.ofBool c).setWidth 8 <<< 7, v.getLsbD 0)

/-- `Compare(r, m)`: C when `r >= m`, N and Z of the difference modulo 256, nothing stored (R210). -/
def State.compare (s : State) (r m : Byte) : State := { s with c := decide (r.toNat ≥ m.toNat) }.setNZ (r - m)

end Sys2Proof.Machine
end

