-- ==== Sys2Proof/Machine/Memory.lean ====
section
/-! DEFINITION. The bytes last written behind the memory port, in one canonical form: what plain RAM holds
(20_memory.md R61, 92_eei_decisions.md D17). -/

namespace Sys2Proof.Machine

/-- What an address that nothing has written reads as. DESIGN CHOICE (log 2): the spec leaves it to the host; 0x00 is
the premise of 95_test_vectors.md. Unsafe. -/
def Memory.unlisted : Byte := 0x00

/-- The byte at an address. -/
def Memory.read : Memory → Nat → Byte
  | [], _ => Memory.unlisted
  | (k, b) :: rest, a => if k = a then b else Memory.read rest a

/-- Put a cell in front, unless its byte is what an unlisted address reads as. -/
def Memory.place (a : Nat) (v : Byte) (rest : Memory) : Memory :=
  if v = Memory.unlisted then rest else (a, v) :: rest

/-- Store a byte at an address, keeping the canonical form. -/
def Memory.write : Memory → Nat → Byte → Memory
  | [], a, v => Memory.place a v []
  | (k, b) :: rest, a, v =>
    if a < k then Memory.place a v ((k, b) :: rest)
    else if a = k then Memory.place a v rest
    else (k, b) :: Memory.write rest a v

/-- The cells lie at strictly rising addresses from `low` on, inside the 16-bit space, none holding the unlisted byte. -/
def Memory.wfFrom : Nat → Memory → Bool
  | _, [] => true
  | low, (k, b) :: rest =>
    decide (low ≤ k) && decide (k < 65536) && b != Memory.unlisted && Memory.wfFrom (k + 1) rest

/-- The canonical form: equal memories are equal lists. -/
def Memory.wf (m : Memory) : Bool := Memory.wfFrom 0 m

end Sys2Proof.Machine
end

