-- ==== Sys2Proof/Machine/Ops.lean ====
section
/-! DEFINITION. The named operations over registers and memory (00_scope.md R13), taking an interrupt and returning from
one (60_exceptions.md R307, 49_flags_system.md R290), and the RESET sequence (70_reset_and_hazards.md R340). -/

namespace Sys2Proof.Machine

def State.setA (s : State) (r : Byte) : State := { s with a := r }

def State.setX (s : State) (r : Byte) : State := { s with x := r }

def State.setY (s : State) (r : Byte) : State := { s with y := r }

def State.setS (s : State) (r : Byte) : State := { s with s := r }

def State.setPc (s : State) (w : Addr) : State := { s with pc := w }

def State.setV (s : State) (b : Bool) : State := { s with v := b }

def State.setD (s : State) (b : Bool) : State := { s with d := b }

def State.setI (s : State) (b : Bool) : State := { s with i := b }

def State.setC (s : State) (b : Bool) : State := { s with c := b }

/-- The start of a step: its transactions begin, those of the step before join the history (R74). -/
def State.beginStep (s : State) : State := { s with past := s.past ++ s.port, port := [] }

/-- Every access so far, oldest first (R61). -/
def State.history (s : State) : List Access := s.past ++ s.port

/-- The byte the host answers a read at `w` with (R61, D17): plain RAM the byte last written there, the general host any
byte, as an oracle over the access history. -/
def State.answer (s : State) (w : Addr) : Byte :=
  match s.host with
  | .plainRam => s.mem.read w.toNat
  | .general => Config.hostAnswer s.mem s.history w

/-- A transaction of the memory port, after those of the step so far (R74). -/
def State.note (s : State) (t : Access) : State := { s with port := s.port ++ [t] }

/-- The state after a read transaction at `w` (R41). -/
def State.afterRead (s : State) (w : Addr) : State := s.note ⟨.read, w, s.answer w⟩

/-- `MemRead(w, 1)`: the host's byte, and the state after the transaction (R41, R61). -/
def State.memRead (s : State) (w : Addr) : Byte × State := (s.answer w, s.afterRead w)

/-- `MemWrite(w, 1, v)`: always accepted (R41, R61). Whether a later read shows the byte is the host's. -/
def State.memWrite (s : State) (w : Addr) (v : Byte) : State :=
  { s with mem := s.mem.write w.toNat v }.note ⟨.write, w, v⟩

/-- `FetchByte()`: read at PC, then advance PC modulo 65536 (R26, R120). -/
def State.fetchByte (s : State) : Byte × State :=
  let (b, s1) := s.memRead s.pc
  (b, s1.setPc (s.pc + 1))

/-- The address a stack pointer value designates, `{0x01, S}` (R23). -/
def stackAddr (sp : Byte) : Addr := pairAddr 0x01 sp

/-- `Push(v)`: write at the stack address, then decrement S modulo 256 (R70). -/
def State.push (s : State) (v : Byte) : State := (s.memWrite (stackAddr s.s) v).setS (s.s - 1)

/-- `Pull()`: increment S modulo 256, then read at the stack address (R71). -/
def State.pull (s : State) : Byte × State := (s.setS (s.s + 1)).memRead (stackAddr (s.s + 1))

/-- Push a 16-bit value, high byte first (R67). -/
def State.pushAddr (s : State) (w : Addr) : State := (s.push (hiByte w)).push (loByte w)

/-- Pull a 16-bit value, low byte first (R253, R290). -/
def State.pullAddr (s : State) : Addr × State :=
  let (lo, s1) := s.pull
  let (hi, s2) := s1.pull
  (pairAddr hi lo, s2)

/-- Read the 16-bit value whose low byte is at `w` and whose high byte is at `w'` (R66). -/
def State.readPair (s : State) (w w' : Addr) : Addr × State :=
  let (lo, s1) := s.memRead w
  let (hi, s2) := s1.memRead w'
  (pairAddr hi lo, s2)

/-- The end of a step: its cycles are added to CYC and reported (R302, R350). -/
def State.finish (s : State) (cycles : Nat) : State := { s with cyc := s.cyc + cycles, cyclesElapsed := cycles }

/-- The vectors (R308): the address of the low byte. -/
def nmiVector : Addr := 0xFFFA

def resetVector : Addr := 0xFFFC

def irqVector : Addr := 0xFFFE

/-- PC takes the word of a vector, low byte read first (R307, R340). -/
def State.jumpVector (s : State) (vec : Addr) : State :=
  let (w, s1) := s.readPair vec (vec + 1)
  s1.setPc w

/-- `Interrupt(vec, b, ret)`, the one way into a handler (R307): push the return address and P as it was, set I, take PC
from the vector. -/
def State.interrupt (s : State) (vec : Addr) (b : Bool) (ret : Addr) : State :=
  (((s.pushAddr ret).push (s.pack b)).setI true).jumpVector vec

/-- The return from a handler (R290, R309): pull P, then the exact return address. -/
def State.returnFromInterrupt (s : State) : State :=
  let (p, s1) := s.pull
  let (w, s2) := (s1.unpack p).pullAddr
  s2.setPc w

/-- `ServiceNMI()` (R305). -/
def State.serviceNmi (s : State) : State :=
  ({ s with nmiPending := false }.interrupt nmiVector false s.pc).finish 7

/-- `ServiceIRQ()` (R306). -/
def State.serviceIrq (s : State) : State := (s.interrupt irqVector false s.pc).finish 7

/-- The values RESET leaves unknown (R9, R341, R342). -/
structure ResetUnknowns where
  a : Byte
  x : Byte
  y : Byte
  n : Bool
  v : Bool
  d : Bool
  z : Bool
  c : Bool
  deriving DecidableEq, Repr

/-- Eight free values from draw `k` on (R9: unknown, a fresh draw at every RESET). Log 4. -/
def drawUnknowns (k : Nat) : ResetUnknowns where
  a := Config.freeByte k
  x := Config.freeByte (k + 1)
  y := Config.freeByte (k + 2)
  n := Config.freeBit (k + 3)
  v := Config.freeBit (k + 4)
  d := Config.freeBit (k + 5)
  z := Config.freeBit (k + 6)
  c := Config.freeBit (k + 7)

/-- The RESET sequence for given unknowns, in either run state (R340, R343, R344). Nothing is pushed or written, and the
strap, `HOST` and `irq_line` are the host's. -/
def State.resetSequence (s : State) (u : ResetUnknowns) : State :=
  let s1 : State :=
    { s.beginStep with
      s := 0xFD, i := true
      a := u.a, x := u.x, y := u.y
      n := u.n, v := u.v, d := u.d, z := u.z, c := u.c
      nmiPending := false, rs := .running }
  { s1.jumpVector resetVector with cyc := Config.resetCycles, cyclesElapsed := Config.resetCycles }

end Sys2Proof.Machine
end

