-- ==== Sys2Proof/Machine/Operands.lean ====
section
/-! DEFINITION. The addressing-mode resolver (40_addressing.md) and the shapes the instructions share: read, store,
read-modify-write, implied and branch. Every operation here runs after the instruction's bytes have been fetched. -/

namespace Sys2Proof.Machine

/-- What a mode yields: the effective address, whether a page was crossed, and the state after its pointer reads. -/
structure Resolved where
  ea : Addr
  crossed : Bool
  after : State

/-- `zext_16` of a byte (R12). -/
def zeroPage (b : Byte) : Addr := pairAddr 0x00 b

/-- The sum of a 16-bit base and an index register, modulo 65536 (R129, R130, R134). -/
def indexed (base : Addr) (idx : Byte) : Addr := base + zeroPage idx

/-- `page(w) != page(w')` (R12). -/
def pageDiffers (w w' : Addr) : Bool := hiByte w != hiByte w'

/-- An indexed effective address with its page crossing (R129, R130, R134). -/
def State.indexedFrom (s : State) (base : Addr) (idx : Byte) : Resolved :=
  ⟨indexed base idx, pageDiffers (indexed base idx) base, s⟩

/-- The pointer at zero-page address `z`, its successor wrapping inside page zero (R133, R134). -/
def State.zeroPagePointer (s : State) (z : Byte) : Addr × State := s.readPair (zeroPage z) (zeroPage (z + 1))

/-- The effective address of a mode (R124 to R126, R128 to R130, R132 to R134). -/
def State.resolve (s : State) : MemMode → Resolved
  | .zp b => ⟨zeroPage b, false, s⟩
  | .zpx b => ⟨zeroPage (b + s.x), false, s⟩
  | .zpy b => ⟨zeroPage (b + s.y), false, s⟩
  | .abs w => ⟨w, false, s⟩
  | .abx w => s.indexedFrom w s.x
  | .aby w => s.indexedFrom w s.y
  | .ind w =>
    let (t, s1) := s.readPair w (pairAddr (hiByte w) (loByte w + 1))
    ⟨t, false, s1⟩
  | .inx b =>
    let (t, s1) := s.zeroPagePointer (b + s.x)
    ⟨t, false, s1⟩
  | .iny b =>
    let (t, s1) := s.zeroPagePointer b
    s1.indexedFrom t s.y

/-- The operand byte of a read-type instruction, whether its mode crossed a page, and the state after the accesses. -/
structure Operand where
  value : Byte
  crossed : Bool
  after : State

/-- `Operand(m)`: `imm` for Immediate, else the byte at `ea`, read after the mode has run (41_load_store.md). -/
def State.operand (s : State) : Source → Operand
  | .imm v => ⟨v, false, s⟩
  | .mem m =>
    let r := s.resolve m
    let (v, s1) := r.after.memRead r.ea
    ⟨v, r.crossed, s1⟩

/-- The cycle penalty of a row (R351, R352). -/
inductive Penalty where
  /-- The count is fixed (R352). -/
  | none
  /-- One cycle more when the mode crossed a page (R351). -/
  | page
  deriving DecidableEq, Repr

/-- The cycles a penalty adds (R351, R352). -/
def Penalty.cycles : Penalty → Bool → Nat
  | .none, _ => 0
  | .page, crossed => if crossed then 1 else 0

/-- A read-type instruction: take the operand, act on it, spend the base count and the penalty (R350). -/
def State.readType (s : State) (src : Source) (base : Nat) (pen : Penalty) (act : State → Byte → State) : State :=
  let o := s.operand src
  (act o.after o.value).finish (base + pen.cycles o.crossed)

/-- A write-type instruction: store a byte at `ea`; `ea` itself is not read (R153). -/
def State.writeType (s : State) (m : MemMode) (base : Nat) (v : Byte) : State :=
  let r := s.resolve m
  (r.after.memWrite r.ea v).finish base

/-- A read-modify-write instruction: one read, one write of the new byte, then the flags `act` sets from the old byte
and the new (R194, R220). -/
def State.modifyType (s : State) (m : MemMode) (base : Nat) (f : Byte → Byte) (act : State → Byte → Byte → State) :
    State :=
  let r := s.resolve m
  let (v, s1) := r.after.memRead r.ea
  (act (s1.memWrite r.ea (f v)) v (f v)).finish base

/-- A relative branch (R127, R230): the target is PC, already past the branch, plus the signed offset. -/
def branchTarget (pc : Addr) (off : Byte) : Addr := pc + off.signExtend 16

/-- A conditional branch (R230, R231): one cycle more when taken, two when the target lies in another page. -/
def State.branch (s : State) (cond : Bool) (off : Byte) : State :=
  let target := branchTarget s.pc off
  if cond then (s.setPc target).finish (if pageDiffers target s.pc then 4 else 3) else s.finish 2

end Sys2Proof.Machine
end

