-- ==== Sys2Proof/Machine/Arithmetic.lean ====
section
/-! DEFINITION. ADC and SBC (42_arithmetic.md), binary and decimal by D. -/

namespace Sys2Proof.Machine

/-- A takes an ALU result; V, C, N and Z follow (R171, R172, R175). -/
def State.applyAlu (s : State) (r : AluResult) : State := (((s.setA r.value).setV r.overflow).setC r.carry).setNZ r.value

/-- ADC of an operand byte, by the D of the moment (R170). -/
def State.addWithCarry (s : State) (m : Byte) : State := s.applyAlu (adc s.d s.a m s.c)

/-- SBC of an operand byte, by the D of the moment (R174, R175). -/
def State.subtractWithBorrow (s : State) (m : Byte) : State := s.applyAlu (sbc s.d s.a m s.c)

/-- `69 nn` ADC #nn (R170, R123). -/
def execAdcImm (v : Byte) (s : State) : Outcome :=
  .next (s.readType (.imm v) 2 .none State.addWithCarry)

/-- `65 nn` ADC nn (R170, R124). -/
def execAdcZp (b : Byte) (s : State) : Outcome :=
  .next (s.readType (.mem (.zp b)) 3 .none State.addWithCarry)

/-- `75 nn` ADC nn,X (R170, R125). -/
def execAdcZpx (b : Byte) (s : State) : Outcome :=
  .next (s.readType (.mem (.zpx b)) 4 .none State.addWithCarry)

/-- `6D ll hh` ADC hhll (R170, R128). -/
def execAdcAbs (w : Addr) (s : State) : Outcome :=
  .next (s.readType (.mem (.abs w)) 4 .none State.addWithCarry)

/-- `7D ll hh` ADC hhll,X (R170, R129). -/
def execAdcAbx (w : Addr) (s : State) : Outcome :=
  .next (s.readType (.mem (.abx w)) 4 .page State.addWithCarry)

/-- `79 ll hh` ADC hhll,Y (R170, R130). -/
def execAdcAby (w : Addr) (s : State) : Outcome :=
  .next (s.readType (.mem (.aby w)) 4 .page State.addWithCarry)

/-- `61 nn` ADC (nn,X) (R170, R133). -/
def execAdcInx (b : Byte) (s : State) : Outcome :=
  .next (s.readType (.mem (.inx b)) 6 .none State.addWithCarry)

/-- `71 nn` ADC (nn),Y (R170, R134). -/
def execAdcIny (b : Byte) (s : State) : Outcome :=
  .next (s.readType (.mem (.iny b)) 5 .page State.addWithCarry)

/-- `E9 nn` SBC #nn (R174, R123). -/
def execSbcImm (v : Byte) (s : State) : Outcome :=
  .next (s.readType (.imm v) 2 .none State.subtractWithBorrow)

/-- `E5 nn` SBC nn (R174, R124). -/
def execSbcZp (b : Byte) (s : State) : Outcome :=
  .next (s.readType (.mem (.zp b)) 3 .none State.subtractWithBorrow)

/-- `F5 nn` SBC nn,X (R174, R125). -/
def execSbcZpx (b : Byte) (s : State) : Outcome :=
  .next (s.readType (.mem (.zpx b)) 4 .none State.subtractWithBorrow)

/-- `ED ll hh` SBC hhll (R174, R128). -/
def execSbcAbs (w : Addr) (s : State) : Outcome :=
  .next (s.readType (.mem (.abs w)) 4 .none State.subtractWithBorrow)

/-- `FD ll hh` SBC hhll,X (R174, R129). -/
def execSbcAbx (w : Addr) (s : State) : Outcome :=
  .next (s.readType (.mem (.abx w)) 4 .page State.subtractWithBorrow)

/-- `F9 ll hh` SBC hhll,Y (R174, R130). -/
def execSbcAby (w : Addr) (s : State) : Outcome :=
  .next (s.readType (.mem (.aby w)) 4 .page State.subtractWithBorrow)

/-- `E1 nn` SBC (nn,X) (R174, R133). -/
def execSbcInx (b : Byte) (s : State) : Outcome :=
  .next (s.readType (.mem (.inx b)) 6 .none State.subtractWithBorrow)

/-- `F1 nn` SBC (nn),Y (R174, R134). -/
def execSbcIny (b : Byte) (s : State) : Outcome :=
  .next (s.readType (.mem (.iny b)) 5 .page State.subtractWithBorrow)

end Sys2Proof.Machine
end

