-- ==== Sys2Proof/Machine/Branch.lean ====
section
/-! DEFINITION. Conditional branches (46_branch.md): PC only, no flag. -/

namespace Sys2Proof.Machine

/-- `10 nn` BPL *+2+off (R232, R127). -/
def execBpl (off : Byte) (s : State) : Outcome :=
  .next (s.branch (!s.n) off)

/-- `30 nn` BMI *+2+off (R233, R127). -/
def execBmi (off : Byte) (s : State) : Outcome :=
  .next (s.branch s.n off)

/-- `50 nn` BVC *+2+off (R234, R127). -/
def execBvc (off : Byte) (s : State) : Outcome :=
  .next (s.branch (!s.v) off)

/-- `70 nn` BVS *+2+off (R235, R127). -/
def execBvs (off : Byte) (s : State) : Outcome :=
  .next (s.branch s.v off)

/-- `90 nn` BCC *+2+off (R236, R127). -/
def execBcc (off : Byte) (s : State) : Outcome :=
  .next (s.branch (!s.c) off)

/-- `B0 nn` BCS *+2+off (R237, R127). -/
def execBcs (off : Byte) (s : State) : Outcome :=
  .next (s.branch s.c off)

/-- `D0 nn` BNE *+2+off (R238, R127). -/
def execBne (off : Byte) (s : State) : Outcome :=
  .next (s.branch (!s.z) off)

/-- `F0 nn` BEQ *+2+off (R239, R127). -/
def execBeq (off : Byte) (s : State) : Outcome :=
  .next (s.branch s.z off)

end Sys2Proof.Machine
end

