-- ==== Sys2Proof/Machine/Compare.lean ====
section
/-! DEFINITION. Comparisons (44_compare.md): the flags of a subtraction that is not stored. -/

namespace Sys2Proof.Machine

/-- `C9 nn` CMP #nn (R211, R123). -/
def execCmpImm (v : Byte) (s : State) : Outcome :=
  .next (s.readType (.imm v) 2 .none (fun t m => t.compare t.a m))

/-- `C5 nn` CMP nn (R211, R124). -/
def execCmpZp (b : Byte) (s : State) : Outcome :=
  .next (s.readType (.mem (.zp b)) 3 .none (fun t m => t.compare t.a m))

/-- `D5 nn` CMP nn,X (R211, R125). -/
def execCmpZpx (b : Byte) (s : State) : Outcome :=
  .next (s.readType (.mem (.zpx b)) 4 .none (fun t m => t.compare t.a m))

/-- `CD ll hh` CMP hhll (R211, R128). -/
def execCmpAbs (w : Addr) (s : State) : Outcome :=
  .next (s.readType (.mem (.abs w)) 4 .none (fun t m => t.compare t.a m))

/-- `DD ll hh` CMP hhll,X (R211, R129). -/
def execCmpAbx (w : Addr) (s : State) : Outcome :=
  .next (s.readType (.mem (.abx w)) 4 .page (fun t m => t.compare t.a m))

/-- `D9 ll hh` CMP hhll,Y (R211, R130). -/
def execCmpAby (w : Addr) (s : State) : Outcome :=
  .next (s.readType (.mem (.aby w)) 4 .page (fun t m => t.compare t.a m))

/-- `C1 nn` CMP (nn,X) (R211, R133). -/
def execCmpInx (b : Byte) (s : State) : Outcome :=
  .next (s.readType (.mem (.inx b)) 6 .none (fun t m => t.compare t.a m))

/-- `D1 nn` CMP (nn),Y (R211, R134). -/
def execCmpIny (b : Byte) (s : State) : Outcome :=
  .next (s.readType (.mem (.iny b)) 5 .page (fun t m => t.compare t.a m))

/-- `E0 nn` CPX #nn (R212, R123). -/
def execCpxImm (v : Byte) (s : State) : Outcome :=
  .next (s.readType (.imm v) 2 .none (fun t m => t.compare t.x m))

/-- `E4 nn` CPX nn (R212, R124). -/
def execCpxZp (b : Byte) (s : State) : Outcome :=
  .next (s.readType (.mem (.zp b)) 3 .none (fun t m => t.compare t.x m))

/-- `EC ll hh` CPX hhll (R212, R128). -/
def execCpxAbs (w : Addr) (s : State) : Outcome :=
  .next (s.readType (.mem (.abs w)) 4 .none (fun t m => t.compare t.x m))

/-- `C0 nn` CPY #nn (R213, R123). -/
def execCpyImm (v : Byte) (s : State) : Outcome :=
  .next (s.readType (.imm v) 2 .none (fun t m => t.compare t.y m))

/-- `C4 nn` CPY nn (R213, R124). -/
def execCpyZp (b : Byte) (s : State) : Outcome :=
  .next (s.readType (.mem (.zp b)) 3 .none (fun t m => t.compare t.y m))

/-- `CC ll hh` CPY hhll (R213, R128). -/
def execCpyAbs (w : Addr) (s : State) : Outcome :=
  .next (s.readType (.mem (.abs w)) 4 .none (fun t m => t.compare t.y m))

end Sys2Proof.Machine
end

