-- ==== Sys2Proof/Machine/FlagsSystem.lean ====
section
/-! DEFINITION. Flag instructions, NOP, BRK, RTI and the undocumented opcodes (49_flags_system.md). -/

namespace Sys2Proof.Machine

/-- `18` CLC (R280, R121). -/
def execClc (s : State) : Outcome :=
  .next ((s.setC false).finish 2)

/-- `38` SEC (R281, R121). -/
def execSec (s : State) : Outcome :=
  .next ((s.setC true).finish 2)

/-- `58` CLI (R282, R121). -/
def execCli (s : State) : Outcome :=
  .next ((s.setI false).finish 2)

/-- `78` SEI (R283, R121). -/
def execSei (s : State) : Outcome :=
  .next ((s.setI true).finish 2)

/-- `D8` CLD (R284, R121). -/
def execCld (s : State) : Outcome :=
  .next ((s.setD false).finish 2)

/-- `F8` SED (R285, R121). -/
def execSed (s : State) : Outcome :=
  .next ((s.setD true).finish 2)

/-- `B8` CLV (R286, R121). -/
def execClv (s : State) : Outcome :=
  .next ((s.setV false).finish 2)

/-- `EA` NOP (R287, R121). -/
def execNop (s : State) : Outcome :=
  .next (s.finish 2)

/-- `00` BRK (R289, R121). PC is past the opcode, so `PC + 1` skips the padding byte. -/
def execBrk (s : State) : Outcome :=
  .next ((s.interrupt irqVector true (s.pc + 1)).finish 7)

/-- `40` RTI (R290, R121). -/
def execRti (s : State) : Outcome :=
  .next ((s.returnFromInterrupt).finish 6)

/-- An undocumented opcode with the strap given. True: as NOP, one byte and two cycles (R291). False:
`UnsupportedOpcode(op)`, which stops the core and spends no cycle; PC stays past the opcode (R292, R315). -/
def State.undocumented (s : State) (op : Byte) : Bool → State
  | true => s.finish 2
  | false => { s with rs := .stopped op }.finish 0

/-- An undocumented opcode byte, by the strap `UNDOC_NOP` (R291, R292). -/
def execUndoc (op : Byte) (s : State) : Outcome :=
  .next (s.undocumented op s.undocNop)

end Sys2Proof.Machine
end

