-- ==== Sys2Proof/Machine/IncDec.lean ====
section
/-! DEFINITION. Increments and decrements (45_incdec.md): modulo 256, N and Z of the result, always binary. -/

namespace Sys2Proof.Machine

/-- The flags of INC and DEC: N, Z of the new byte, whatever the old (R220). -/
def State.noteResult (s : State) (_old r : Byte) : State := s.setNZ r

/-- `E6 nn` INC nn (R221, R124). -/
def execIncZp (b : Byte) (s : State) : Outcome :=
  .next (s.modifyType (.zp b) 5 (· + 1) State.noteResult)

/-- `F6 nn` INC nn,X (R221, R125). -/
def execIncZpx (b : Byte) (s : State) : Outcome :=
  .next (s.modifyType (.zpx b) 6 (· + 1) State.noteResult)

/-- `EE ll hh` INC hhll (R221, R128). -/
def execIncAbs (w : Addr) (s : State) : Outcome :=
  .next (s.modifyType (.abs w) 6 (· + 1) State.noteResult)

/-- `FE ll hh` INC hhll,X (R221, R129). -/
def execIncAbx (w : Addr) (s : State) : Outcome :=
  .next (s.modifyType (.abx w) 7 (· + 1) State.noteResult)

/-- `C6 nn` DEC nn (R222, R124). -/
def execDecZp (b : Byte) (s : State) : Outcome :=
  .next (s.modifyType (.zp b) 5 (· - 1) State.noteResult)

/-- `D6 nn` DEC nn,X (R222, R125). -/
def execDecZpx (b : Byte) (s : State) : Outcome :=
  .next (s.modifyType (.zpx b) 6 (· - 1) State.noteResult)

/-- `CE ll hh` DEC hhll (R222, R128). -/
def execDecAbs (w : Addr) (s : State) : Outcome :=
  .next (s.modifyType (.abs w) 6 (· - 1) State.noteResult)

/-- `DE ll hh` DEC hhll,X (R222, R129). -/
def execDecAbx (w : Addr) (s : State) : Outcome :=
  .next (s.modifyType (.abx w) 7 (· - 1) State.noteResult)

/-- `E8` INX (R223, R121). -/
def execInx (s : State) : Outcome :=
  .next (((s.setX (s.x + 1)).setNZ (s.x + 1)).finish 2)

/-- `CA` DEX (R224, R121). -/
def execDex (s : State) : Outcome :=
  .next (((s.setX (s.x - 1)).setNZ (s.x - 1)).finish 2)

/-- `C8` INY (R225, R121). -/
def execIny (s : State) : Outcome :=
  .next (((s.setY (s.y + 1)).setNZ (s.y + 1)).finish 2)

/-- `88` DEY (R226, R121). -/
def execDey (s : State) : Outcome :=
  .next (((s.setY (s.y - 1)).setNZ (s.y - 1)).finish 2)

end Sys2Proof.Machine
end

