-- ==== Sys2Proof/Machine/JumpCall.lean ====
section
/-! DEFINITION. Jump, call and return (47_jump_call.md): no flag. -/

namespace Sys2Proof.Machine

/-- JMP: PC takes the effective address of the mode (R250, R251). -/
def State.jump (s : State) (m : MemMode) (cycles : Nat) : State :=
  let r := s.resolve m
  (r.after.setPc r.ea).finish cycles

/-- `4C ll hh` JMP hhll (R250, R128). -/
def execJmpAbs (w : Addr) (s : State) : Outcome :=
  .next (s.jump (.abs w) 3)

/-- `6C ll hh` JMP (hhll) (R251, R132). -/
def execJmpInd (w : Addr) (s : State) : Outcome :=
  .next (s.jump (.ind w) 5)

/-- `20 ll hh` JSR hhll (R252, R128). PC is past the operand, so `PC - 1` is the address of the last byte of the JSR. -/
def execJsr (w : Addr) (s : State) : Outcome :=
  .next (((s.pushAddr (s.pc - 1)).setPc w).finish 6)

/-- `60` RTS (R253, R121). -/
def execRts (s : State) : Outcome :=
  .next ((s.pullAddr.2.setPc (s.pullAddr.1 + 1)).finish 6)

end Sys2Proof.Machine
end

