-- ==== Sys2Proof/Machine/LoadStore.lean ====
section
/-! DEFINITION. Load and store (41_load_store.md). A load sets N and Z from the loaded byte; a store changes no flag. -/

namespace Sys2Proof.Machine

/-- Load A and set N, Z from the byte (R150, R261). -/
def State.loadA (s : State) (r : Byte) : State := (s.setA r).setNZ r

/-- Load X and set N, Z from the byte (R151). -/
def State.loadX (s : State) (r : Byte) : State := (s.setX r).setNZ r

/-- Load Y and set N, Z from the byte (R152). -/
def State.loadY (s : State) (r : Byte) : State := (s.setY r).setNZ r

/-- `A9 nn` LDA #nn (R150, R123). -/
def execLdaImm (v : Byte) (s : State) : Outcome :=
  .next (s.readType (.imm v) 2 .none State.loadA)

/-- `A5 nn` LDA nn (R150, R124). -/
def execLdaZp (b : Byte) (s : State) : Outcome :=
  .next (s.readType (.mem (.zp b)) 3 .none State.loadA)

/-- `B5 nn` LDA nn,X (R150, R125). -/
def execLdaZpx (b : Byte) (s : State) : Outcome :=
  .next (s.readType (.mem (.zpx b)) 4 .none State.loadA)

/-- `AD ll hh` LDA hhll (R150, R128). -/
def execLdaAbs (w : Addr) (s : State) : Outcome :=
  .next (s.readType (.mem (.abs w)) 4 .none State.loadA)

/-- `BD ll hh` LDA hhll,X (R150, R129). -/
def execLdaAbx (w : Addr) (s : State) : Outcome :=
  .next (s.readType (.mem (.abx w)) 4 .page State.loadA)

/-- `B9 ll hh` LDA hhll,Y (R150, R130). -/
def execLdaAby (w : Addr) (s : State) : Outcome :=
  .next (s.readType (.mem (.aby w)) 4 .page State.loadA)

/-- `A1 nn` LDA (nn,X) (R150, R133). -/
def execLdaInx (b : Byte) (s : State) : Outcome :=
  .next (s.readType (.mem (.inx b)) 6 .none State.loadA)

/-- `B1 nn` LDA (nn),Y (R150, R134). -/
def execLdaIny (b : Byte) (s : State) : Outcome :=
  .next (s.readType (.mem (.iny b)) 5 .page State.loadA)

/-- `A2 nn` LDX #nn (R151, R123). -/
def execLdxImm (v : Byte) (s : State) : Outcome :=
  .next (s.readType (.imm v) 2 .none State.loadX)

/-- `A6 nn` LDX nn (R151, R124). -/
def execLdxZp (b : Byte) (s : State) : Outcome :=
  .next (s.readType (.mem (.zp b)) 3 .none State.loadX)

/-- `B6 nn` LDX nn,Y (R151, R126). -/
def execLdxZpy (b : Byte) (s : State) : Outcome :=
  .next (s.readType (.mem (.zpy b)) 4 .none State.loadX)

/-- `AE ll hh` LDX hhll (R151, R128). -/
def execLdxAbs (w : Addr) (s : State) : Outcome :=
  .next (s.readType (.mem (.abs w)) 4 .none State.loadX)

/-- `BE ll hh` LDX hhll,Y (R151, R130). -/
def execLdxAby (w : Addr) (s : State) : Outcome :=
  .next (s.readType (.mem (.aby w)) 4 .page State.loadX)

/-- `A0 nn` LDY #nn (R152, R123). -/
def execLdyImm (v : Byte) (s : State) : Outcome :=
  .next (s.readType (.imm v) 2 .none State.loadY)

/-- `A4 nn` LDY nn (R152, R124). -/
def execLdyZp (b : Byte) (s : State) : Outcome :=
  .next (s.readType (.mem (.zp b)) 3 .none State.loadY)

/-- `B4 nn` LDY nn,X (R152, R125). -/
def execLdyZpx (b : Byte) (s : State) : Outcome :=
  .next (s.readType (.mem (.zpx b)) 4 .none State.loadY)

/-- `AC ll hh` LDY hhll (R152, R128). -/
def execLdyAbs (w : Addr) (s : State) : Outcome :=
  .next (s.readType (.mem (.abs w)) 4 .none State.loadY)

/-- `BC ll hh` LDY hhll,X (R152, R129). -/
def execLdyAbx (w : Addr) (s : State) : Outcome :=
  .next (s.readType (.mem (.abx w)) 4 .page State.loadY)

/-- `85 nn` STA nn (R153, R124). -/
def execStaZp (b : Byte) (s : State) : Outcome :=
  .next (s.writeType (.zp b) 3 s.a)

/-- `95 nn` STA nn,X (R153, R125). -/
def execStaZpx (b : Byte) (s : State) : Outcome :=
  .next (s.writeType (.zpx b) 4 s.a)

/-- `8D ll hh` STA hhll (R153, R128). -/
def execStaAbs (w : Addr) (s : State) : Outcome :=
  .next (s.writeType (.abs w) 4 s.a)

/-- `9D ll hh` STA hhll,X (R153, R129). -/
def execStaAbx (w : Addr) (s : State) : Outcome :=
  .next (s.writeType (.abx w) 5 s.a)

/-- `99 ll hh` STA hhll,Y (R153, R130). -/
def execStaAby (w : Addr) (s : State) : Outcome :=
  .next (s.writeType (.aby w) 5 s.a)

/-- `81 nn` STA (nn,X) (R153, R133). -/
def execStaInx (b : Byte) (s : State) : Outcome :=
  .next (s.writeType (.inx b) 6 s.a)

/-- `91 nn` STA (nn),Y (R153, R134). -/
def execStaIny (b : Byte) (s : State) : Outcome :=
  .next (s.writeType (.iny b) 6 s.a)

/-- `86 nn` STX nn (R154, R124). -/
def execStxZp (b : Byte) (s : State) : Outcome :=
  .next (s.writeType (.zp b) 3 s.x)

/-- `96 nn` STX nn,Y (R154, R126). -/
def execStxZpy (b : Byte) (s : State) : Outcome :=
  .next (s.writeType (.zpy b) 4 s.x)

/-- `8E ll hh` STX hhll (R154, R128). -/
def execStxAbs (w : Addr) (s : State) : Outcome :=
  .next (s.writeType (.abs w) 4 s.x)

/-- `84 nn` STY nn (R155, R124). -/
def execStyZp (b : Byte) (s : State) : Outcome :=
  .next (s.writeType (.zp b) 3 s.y)

/-- `94 nn` STY nn,X (R155, R125). -/
def execStyZpx (b : Byte) (s : State) : Outcome :=
  .next (s.writeType (.zpx b) 4 s.y)

/-- `8C ll hh` STY hhll (R155, R128). -/
def execStyAbs (w : Addr) (s : State) : Outcome :=
  .next (s.writeType (.abs w) 4 s.y)

end Sys2Proof.Machine
end

