-- ==== Sys2Proof/Machine/LogicShift.lean ====
section
/-! DEFINITION. Bitwise logic, bit test, shifts and rotates (43_logic_shift.md). -/

namespace Sys2Proof.Machine

/-- AND into A (R190). -/
def State.andA (s : State) (m : Byte) : State := (s.setA (s.a &&& m)).setNZ (s.a &&& m)

/-- OR into A (R191). -/
def State.orA (s : State) (m : Byte) : State := (s.setA (s.a ||| m)).setNZ (s.a ||| m)

/-- Exclusive OR into A (R192). -/
def State.eorA (s : State) (m : Byte) : State := (s.setA (s.a ^^^ m)).setNZ (s.a ^^^ m)

/-- BIT: Z from `A & m`, N and V from bits 7 and 6 of the operand (R193). -/
def State.bitTest (s : State) (m : Byte) : State :=
  { s with z := s.a &&& m == 0, n := m.getLsbD 7, v := m.getLsbD 6 }

/-- The accumulator form of a shift or rotate (R194). -/
def State.shiftAcc (s : State) (f : Byte → Bool → Byte × Bool) : State :=
  ((s.setA (f s.a s.c).1).setC (f s.a s.c).2).setNZ (f s.a s.c).1

/-- The memory form of a shift or rotate: A is neither read nor written (R194). -/
def State.shiftMem (s : State) (m : MemMode) (base : Nat) (f : Byte → Bool → Byte × Bool) : State :=
  s.modifyType m base (fun v => (f v s.c).1) (fun t v r => (t.setC (f v s.c).2).setNZ r)

/-- `29 nn` AND #nn (R190, R123). -/
def execAndImm (v : Byte) (s : State) : Outcome :=
  .next (s.readType (.imm v) 2 .none State.andA)

/-- `25 nn` AND nn (R190, R124). -/
def execAndZp (b : Byte) (s : State) : Outcome :=
  .next (s.readType (.mem (.zp b)) 3 .none State.andA)

/-- `35 nn` AND nn,X (R190, R125). -/
def execAndZpx (b : Byte) (s : State) : Outcome :=
  .next (s.readType (.mem (.zpx b)) 4 .none State.andA)

/-- `2D ll hh` AND hhll (R190, R128). -/
def execAndAbs (w : Addr) (s : State) : Outcome :=
  .next (s.readType (.mem (.abs w)) 4 .none State.andA)

/-- `3D ll hh` AND hhll,X (R190, R129). -/
def execAndAbx (w : Addr) (s : State) : Outcome :=
  .next (s.readType (.mem (.abx w)) 4 .page State.andA)

/-- `39 ll hh` AND hhll,Y (R190, R130). -/
def execAndAby (w : Addr) (s : State) : Outcome :=
  .next (s.readType (.mem (.aby w)) 4 .page State.andA)

/-- `21 nn` AND (nn,X) (R190, R133). -/
def execAndInx (b : Byte) (s : State) : Outcome :=
  .next (s.readType (.mem (.inx b)) 6 .none State.andA)

/-- `31 nn` AND (nn),Y (R190, R134). -/
def execAndIny (b : Byte) (s : State) : Outcome :=
  .next (s.readType (.mem (.iny b)) 5 .page State.andA)

/-- `09 nn` ORA #nn (R191, R123). -/
def execOraImm (v : Byte) (s : State) : Outcome :=
  .next (s.readType (.imm v) 2 .none State.orA)

/-- `05 nn` ORA nn (R191, R124). -/
def execOraZp (b : Byte) (s : State) : Outcome :=
  .next (s.readType (.mem (.zp b)) 3 .none State.orA)

/-- `15 nn` ORA nn,X (R191, R125). -/
def execOraZpx (b : Byte) (s : State) : Outcome :=
  .next (s.readType (.mem (.zpx b)) 4 .none State.orA)

/-- `0D ll hh` ORA hhll (R191, R128). -/
def execOraAbs (w : Addr) (s : State) : Outcome :=
  .next (s.readType (.mem (.abs w)) 4 .none State.orA)

/-- `1D ll hh` ORA hhll,X (R191, R129). -/
def execOraAbx (w : Addr) (s : State) : Outcome :=
  .next (s.readType (.mem (.abx w)) 4 .page State.orA)

/-- `19 ll hh` ORA hhll,Y (R191, R130). -/
def execOraAby (w : Addr) (s : State) : Outcome :=
  .next (s.readType (.mem (.aby w)) 4 .page State.orA)

/-- `01 nn` ORA (nn,X) (R191, R133). -/
def execOraInx (b : Byte) (s : State) : Outcome :=
  .next (s.readType (.mem (.inx b)) 6 .none State.orA)

/-- `11 nn` ORA (nn),Y (R191, R134). -/
def execOraIny (b : Byte) (s : State) : Outcome :=
  .next (s.readType (.mem (.iny b)) 5 .page State.orA)

/-- `49 nn` EOR #nn (R192, R123). -/
def execEorImm (v : Byte) (s : State) : Outcome :=
  .next (s.readType (.imm v) 2 .none State.eorA)

/-- `45 nn` EOR nn (R192, R124). -/
def execEorZp (b : Byte) (s : State) : Outcome :=
  .next (s.readType (.mem (.zp b)) 3 .none State.eorA)

/-- `55 nn` EOR nn,X (R192, R125). -/
def execEorZpx (b : Byte) (s : State) : Outcome :=
  .next (s.readType (.mem (.zpx b)) 4 .none State.eorA)

/-- `4D ll hh` EOR hhll (R192, R128). -/
def execEorAbs (w : Addr) (s : State) : Outcome :=
  .next (s.readType (.mem (.abs w)) 4 .none State.eorA)

/-- `5D ll hh` EOR hhll,X (R192, R129). -/
def execEorAbx (w : Addr) (s : State) : Outcome :=
  .next (s.readType (.mem (.abx w)) 4 .page State.eorA)

/-- `59 ll hh` EOR hhll,Y (R192, R130). -/
def execEorAby (w : Addr) (s : State) : Outcome :=
  .next (s.readType (.mem (.aby w)) 4 .page State.eorA)

/-- `41 nn` EOR (nn,X) (R192, R133). -/
def execEorInx (b : Byte) (s : State) : Outcome :=
  .next (s.readType (.mem (.inx b)) 6 .none State.eorA)

/-- `51 nn` EOR (nn),Y (R192, R134). -/
def execEorIny (b : Byte) (s : State) : Outcome :=
  .next (s.readType (.mem (.iny b)) 5 .page State.eorA)

/-- `24 nn` BIT nn (R193, R124). -/
def execBitZp (b : Byte) (s : State) : Outcome :=
  .next (s.readType (.mem (.zp b)) 3 .none State.bitTest)

/-- `2C ll hh` BIT hhll (R193, R128). -/
def execBitAbs (w : Addr) (s : State) : Outcome :=
  .next (s.readType (.mem (.abs w)) 4 .none State.bitTest)

/-- `0A` ASL A (R195, R122). -/
def execAslAcc (s : State) : Outcome :=
  .next ((s.shiftAcc shiftLeft).finish 2)

/-- `06 nn` ASL nn (R195, R124). -/
def execAslZp (b : Byte) (s : State) : Outcome :=
  .next (s.shiftMem (.zp b) 5 shiftLeft)

/-- `16 nn` ASL nn,X (R195, R125). -/
def execAslZpx (b : Byte) (s : State) : Outcome :=
  .next (s.shiftMem (.zpx b) 6 shiftLeft)

/-- `0E ll hh` ASL hhll (R195, R128). -/
def execAslAbs (w : Addr) (s : State) : Outcome :=
  .next (s.shiftMem (.abs w) 6 shiftLeft)

/-- `1E ll hh` ASL hhll,X (R195, R129). -/
def execAslAbx (w : Addr) (s : State) : Outcome :=
  .next (s.shiftMem (.abx w) 7 shiftLeft)

/-- `4A` LSR A (R196, R122). -/
def execLsrAcc (s : State) : Outcome :=
  .next ((s.shiftAcc shiftRight).finish 2)

/-- `46 nn` LSR nn (R196, R124). -/
def execLsrZp (b : Byte) (s : State) : Outcome :=
  .next (s.shiftMem (.zp b) 5 shiftRight)

/-- `56 nn` LSR nn,X (R196, R125). -/
def execLsrZpx (b : Byte) (s : State) : Outcome :=
  .next (s.shiftMem (.zpx b) 6 shiftRight)

/-- `4E ll hh` LSR hhll (R196, R128). -/
def execLsrAbs (w : Addr) (s : State) : Outcome :=
  .next (s.shiftMem (.abs w) 6 shiftRight)

/-- `5E ll hh` LSR hhll,X (R196, R129). -/
def execLsrAbx (w : Addr) (s : State) : Outcome :=
  .next (s.shiftMem (.abx w) 7 shiftRight)

/-- `2A` ROL A (R197, R122). -/
def execRolAcc (s : State) : Outcome :=
  .next ((s.shiftAcc rotateLeft).finish 2)

/-- `26 nn` ROL nn (R197, R124). -/
def execRolZp (b : Byte) (s : State) : Outcome :=
  .next (s.shiftMem (.zp b) 5 rotateLeft)

/-- `36 nn` ROL nn,X (R197, R125). -/
def execRolZpx (b : Byte) (s : State) : Outcome :=
  .next (s.shiftMem (.zpx b) 6 rotateLeft)

/-- `2E ll hh` ROL hhll (R197, R128). -/
def execRolAbs (w : Addr) (s : State) : Outcome :=
  .next (s.shiftMem (.abs w) 6 rotateLeft)

/-- `3E ll hh` ROL hhll,X (R197, R129). -/
def execRolAbx (w : Addr) (s : State) : Outcome :=
  .next (s.shiftMem (.abx w) 7 rotateLeft)

/-- `6A` ROR A (R198, R122). -/
def execRorAcc (s : State) : Outcome :=
  .next ((s.shiftAcc rotateRight).finish 2)

/-- `66 nn` ROR nn (R198, R124). -/
def execRorZp (b : Byte) (s : State) : Outcome :=
  .next (s.shiftMem (.zp b) 5 rotateRight)

/-- `76 nn` ROR nn,X (R198, R125). -/
def execRorZpx (b : Byte) (s : State) : Outcome :=
  .next (s.shiftMem (.zpx b) 6 rotateRight)

/-- `6E ll hh` ROR hhll (R198, R128). -/
def execRorAbs (w : Addr) (s : State) : Outcome :=
  .next (s.shiftMem (.abs w) 6 rotateRight)

/-- `7E ll hh` ROR hhll,X (R198, R129). -/
def execRorAbx (w : Addr) (s : State) : Outcome :=
  .next (s.shiftMem (.abx w) 7 rotateRight)

end Sys2Proof.Machine
end

