-- ==== Sys2Proof/Machine/StackTransfer.lean ====
section
/-! DEFINITION. Stack operations and register transfers (48_stack_transfer.md). -/

namespace Sys2Proof.Machine

/-- `48` PHA (R260, R121). -/
def execPha (s : State) : Outcome :=
  .next ((s.push s.a).finish 3)

/-- `68` PLA (R261, R121). -/
def execPla (s : State) : Outcome :=
  .next ((s.pull.2.loadA s.pull.1).finish 4)

/-- `08` PHP (R262, R121). -/
def execPhp (s : State) : Outcome :=
  .next ((s.push (s.pack true)).finish 3)

/-- `28` PLP (R264, R121). -/
def execPlp (s : State) : Outcome :=
  .next ((s.pull.2.unpack s.pull.1).finish 4)

/-- `BA` TSX (R266, R121). -/
def execTsx (s : State) : Outcome :=
  .next (((s.setX s.s).setNZ s.s).finish 2)

/-- `9A` TXS (R267, R121). -/
def execTxs (s : State) : Outcome :=
  .next ((s.setS s.x).finish 2)

/-- `AA` TAX (R268, R121). -/
def execTax (s : State) : Outcome :=
  .next (((s.setX s.a).setNZ s.a).finish 2)

/-- `A8` TAY (R269, R121). -/
def execTay (s : State) : Outcome :=
  .next (((s.setY s.a).setNZ s.a).finish 2)

/-- `8A` TXA (R270, R121). -/
def execTxa (s : State) : Outcome :=
  .next (((s.setA s.x).setNZ s.x).finish 2)

/-- `98` TYA (R271, R121). -/
def execTya (s : State) : Outcome :=
  .next (((s.setA s.y).setNZ s.y).finish 2)

end Sys2Proof.Machine
end

