-- ==== Sys2Proof/Machine/Fetch.lean ====
section
/-! DEFINITION. Fetching an instruction's bytes through the memory port (60_exceptions.md R302, 40_addressing.md R120). -/

namespace Sys2Proof.Machine

/-- Fetch the opcode at PC and the operand bytes its format asks for, low byte first; PC ends past the instruction
(R25, R91, R120). No other byte is read (R75). -/
def State.fetchInstr (s : State) : Instr × State :=
  let (op, s1) := s.fetchByte
  match formatOf op with
  | .f1 i => (i, s1)
  | .f2 k =>
    let (b, s2) := s1.fetchByte
    (k b, s2)
  | .f3 k =>
    let (lo, s2) := s1.fetchByte
    let (hi, s3) := s2.fetchByte
    (k (pairAddr hi lo), s3)

/-- The core runs, no interrupt is waiting and the host is plain RAM, so that the next step fetches the bytes that stand
at PC (R300, D17). -/
def State.readyToFetch (s : State) : State :=
  { s with rs := .running, nmiPending := false, irqLine := false, host := .plainRam }

/-- Store a list of bytes at consecutive addresses from `w` on, modulo 65536, with no transaction of the port. -/
def State.place (s : State) (w : Addr) : List Byte → State
  | [] => s
  | b :: rest => { s with mem := s.mem.write w.toNat b }.place (w + 1) rest

end Sys2Proof.Machine
end

