-- ==== Sys2Proof/Machine/Sequencer.lean ====
section
/-! DEFINITION. The sequencer at an instruction boundary (60_exceptions.md R300 to R304, R316). -/

namespace Sys2Proof.Machine

/-- IRQ is taken when the line is asserted and I is clear (R303, R306). -/
def State.takesIrq (s : State) : Bool := s.irqLine && !s.i

/-- The `STEP` event: stuck in Stopped (R316); else NMI service, else IRQ service when I is clear, else one instruction
(R300). -/
def stepEvent (s : State) : Outcome :=
  match s.rs with
  | .stopped op => .fault (.stopped op)
  | .running =>
    if s.nmiPending then .next s.beginStep.serviceNmi
    else if s.takesIrq then .next s.beginStep.serviceIrq
    else exec s.beginStep.fetchInstr.1 s.beginStep.fetchInstr.2

end Sys2Proof.Machine
end

