-- ==== Sys2Proof/Machine/Step.lean ====
section
/-! DEFINITION. One step (60_exceptions.md R300), and the host's way to place the next instruction. -/

namespace Sys2Proof.Machine

/-- One step of the machine is one `STEP` event. -/
def step (s : State) : Host.Outcome State Fault Refusal := stepEvent s

/-- The state in which the next step fetches and runs the instruction of the table's number `w` (log 12). -/
def State.withFetchWord (s : State) (nbits w : Nat) : State := s.readyToFetch.place s.pc (tableBytes nbits w)

end Sys2Proof.Machine
end

