-- ==== Sys2Proof/Machine/Interface.lean ====
section
/-! DEFINITION. The block's interface to the host (10_state.md R42 to R44, 60_exceptions.md R326): the events it accepts
and the outputs it shows. -/

namespace Sys2Proof.Machine

/-- What the host may do at an instruction boundary (R42, R326). The strap `UNDOC_NOP` is set once and is no event (R7). -/
inductive Event where
  /-- The RESET event (R340). -/
  | reset
  /-- The STEP event (R300). -/
  | step
  /-- An edge on NMI (R36). -/
  | nmiEdge
  /-- A level on `irq_line` (R37). -/
  | irqLine (level : Bool)
  /-- Another chip, or a loader, changes one byte of memory (R326, R346). -/
  | memory (w : Addr) (v : Byte)
  deriving DecidableEq, Repr

/-- The RESET event: the RESET sequence on eight freshly drawn values (R340, 93_implementation_defined.md K4). -/
def State.resetEvent (s : State) : State := { s.resetSequence (drawUnknowns s.draws) with draws := s.draws + 8 }

/-- One event: RESET acts at once in any run state (R300, R312); an edge sets the one-bit latch (R36); a level or a byte
is the host's to set (R37, R326). -/
def deliver (e : Event) (s : State) : Outcome :=
  match e with
  | .reset => .next s.resetEvent
  | .step => step s
  | .nmiEdge => .next { s with nmiPending := true }
  | .irqLine level => .next { s with irqLine := level }
  | .memory w v => .next { s with mem := s.mem.write w.toNat v }

/-- The output `stop`: the core is in `Stopped` (R43). -/
def State.stop (s : State) : Bool := s.rs != .running

/-- The output `stop_opcode`, while `stop` is asserted (R43). -/
def State.stopOpcode (s : State) : Option Byte :=
  match s.rs with
  | .running => none
  | .stopped op => some op

/-- The observation outputs (R44); the flags as one byte are `Pack(0)`. -/
structure Observation where
  a : Byte
  x : Byte
  y : Byte
  s : Byte
  pc : Addr
  p : Byte
  cyc : Nat
  deriving DecidableEq, Repr

/-- Reading the observation outputs, at an instruction boundary (R44). -/
def State.observe (s : State) : Observation := ⟨s.a, s.x, s.y, s.s, s.pc, s.pack false, s.cyc⟩

end Sys2Proof.Machine
end

