-- ==== Sys2Proof/Safety.lean ====
section
/-! DEFINITION. What the claims are stated in: the invariant of a safe run, and the spec's own arithmetic for addresses,
pages, stack cells, the packed P and cycle rows, on natural numbers and integers (00_scope.md R12), independent of the
bit-vector forms the machine uses. -/

namespace Sys2Proof

open Machine

/-- The invariant of every run: memory is canonical; the last step's cycles are part of CYC (R39, R350); and the core is
`Stopped(op)` only on an undocumented byte with `UNDOC_NOP = false` (R38). -/
def Machine.State.inv (s : State) : Bool :=
  s.mem.wf && decide (s.cyclesElapsed ≤ s.cyc) &&
    match s.rs with
    | .running => true
    | .stopped op => isUndocumented op && !s.undocNop

namespace Spec

/-- The state in which a step's transactions begin: those before it are the history (R74). -/
def begun (s : State) : State := { s with past := s.past ++ s.port, port := [] }

/-- The byte the host answers a read at an address with (R61, D17): plain RAM the byte last written there, the general
host whatever its oracle says for the accesses so far. -/
def answered (s : State) (k : Nat) : Byte :=
  match s.host with
  | .plainRam => s.mem.read k
  | .general => Config.hostAnswer s.mem (s.past ++ s.port) (BitVec.ofNat 16 k)

/-- The answered byte as a number. -/
def byteAt (s : State) (k : Nat) : Nat := (answered s k).toNat

/-- The read transactions at a list of addresses, in that order, each answered after those before it (R74). -/
def readsAt (s : State) : List Nat → List Access
  | [] => []
  | k :: ks =>
    ⟨.read, BitVec.ofNat 16 k, answered s k⟩ ::
      readsAt { s with port := s.port ++ [⟨.read, BitVec.ofNat 16 k, answered s k⟩] } ks

/-- The state after those reads. -/
def afterReadsAt (s : State) (ks : List Nat) : State := { s with port := s.port ++ readsAt s ks }

/-- The word of two reads, the first of the low byte, the second of the high byte (R66). -/
def wordAt (s : State) (lo hi : Nat) : Nat := byteAt (afterReadsAt s [lo]) hi * 256 + byteAt s lo

/-- The second address of the JMP indirect pointer: the next byte of the same page (R132). -/
def pageSuccessor (w : Nat) : Nat := w / 256 * 256 + (w % 256 + 1) % 256

/-- The word of the zero-page pointer at `z`, wrapping inside page zero (R133, R134). -/
def pointer (s : State) (z : Nat) : Nat := wordAt s z ((z + 1) % 256)

/-- The effective address of a mode, modulo 65536 or confined to page zero (R69, R124 to R134). -/
def effectiveAddress (s : State) : MemMode → Nat
  | .zp b => b.toNat
  | .zpx b => (b.toNat + s.x.toNat) % 256
  | .zpy b => (b.toNat + s.y.toNat) % 256
  | .abs w => w.toNat
  | .abx w => (w.toNat + s.x.toNat) % 65536
  | .aby w => (w.toNat + s.y.toNat) % 65536
  | .ind w => wordAt s w.toNat (pageSuccessor w.toNat)
  | .inx b => pointer s ((b.toNat + s.x.toNat) % 256)
  | .iny b => (pointer s b.toNat + s.y.toNat) % 65536

/-- `crossed`: the page of the effective address is not the page of the base (R129, R130, R131, R134). -/
def crossed (s : State) : MemMode → Bool
  | .abx w => effectiveAddress s (.abx w) / 256 != w.toNat / 256
  | .aby w => effectiveAddress s (.aby w) / 256 != w.toNat / 256
  | .iny b => effectiveAddress s (.iny b) / 256 != pointer s b.toNat / 256
  | _ => false

/-- The addresses of a mode's pointer, low byte then high byte (R132 to R135). -/
def pointerCells (s : State) : MemMode → List Nat
  | .ind w => [w.toNat, pageSuccessor w.toNat]
  | .inx b => [(b.toNat + s.x.toNat) % 256, ((b.toNat + s.x.toNat) % 256 + 1) % 256]
  | .iny b => [b.toNat, (b.toNat + 1) % 256]
  | _ => []

/-- The pointer reads of a mode (R132 to R135). -/
def pointerReads (s : State) (m : MemMode) : List Access := readsAt s (pointerCells s m)

/-- The operand byte of a mode: the immediate, A, or the byte answered at the effective address after the pointer reads
(41_load_store.md). Implicit and Relative have none; no statement uses it there. -/
def operandByte (s : State) : Mode → Byte
  | .imm v => v
  | .acc => s.a
  | .mem m => answered (afterReadsAt s (pointerCells s m)) (effectiveAddress s m)
  | .imp | .rel _ => 0

/-- The accesses that bring an operand in, after the instruction's bytes: the pointer reads, then one data read (R75). -/
def operandReads (s : State) : Mode → List Access
  | .mem m => readsAt s (pointerCells s m ++ [effectiveAddress s m])
  | _ => []

/-- The page-cross penalty of a mode (R351). -/
def pageCycles (s : State) : Mode → Nat
  | .mem m => if crossed s m then 1 else 0
  | _ => 0

/-- The state after the operand's accesses. -/
def afterReads (s : State) (m : Mode) : State := { s with port := s.port ++ operandReads s m }

/-- N and Z set from a result below 256 (R33). -/
def withNZ (t : State) (r : Nat) : State := { t with n := decide (r ≥ 128), z := decide (r = 0) }

/-- A store of `v` at the effective address: the pointer reads, then one write (R153 to R155, R75). -/
def stored (s : State) (m : MemMode) (v : Byte) : State :=
  { s with
    mem := s.mem.write (effectiveAddress s m) v
    port := s.port ++ pointerReads s m ++ [⟨.write, BitVec.ofNat 16 (effectiveAddress s m), v⟩] }

/-- A read-modify-write that leaves `r` at the effective address: the operand's reads, one write, N and Z (R75, R220). -/
def modified (s : State) (m : MemMode) (r : Nat) : State :=
  withNZ
    { s with
      mem := s.mem.write (effectiveAddress s m) (BitVec.ofNat 8 r)
      port := s.port ++ operandReads s (.mem m) ++
        [⟨.write, BitVec.ofNat 16 (effectiveAddress s m), BitVec.ofNat 8 r⟩] } r

/-- One entry of an instruction rule's `Encodings:` line: opcode byte, mode, base cycles, `+1 if crossed` (bytes and base
cycles are general knowledge to the spec, R96; log 13). -/
structure Row where
  opcode : Byte
  mode : ModeName
  base : Nat
  paged : Bool := false

/-- The cycles of a row (R350 to R352). -/
def Row.cycles (r : Row) (s : State) (m : Mode) : Nat := r.base + if r.paged then pageCycles s m else 0

/-- The state with a step's cycles added to CYC and reported (R350). -/
def spend (k : Nat) (t : State) : State := { t with cyc := t.cyc + k, cyclesElapsed := k }

/-- `i` is one of the listed encodings, and `exec` answers the next state `t` with that encoding's cycles spent. -/
def RunsAs (i : Instr) (s : State) (rows : List Row) (t : State) : Prop :=
  ∃ r ∈ rows, i.opcode = r.opcode ∧ i.mode.name = r.mode ∧ exec i s = .next (spend (r.cycles s i.mode) t)

/-- The address of the stack cell that a stack pointer value designates: page 1 (R23). -/
def stackCell (sp : Nat) : Nat := 256 + sp % 256

/-- The cells of `k` pulls, in their order, wrapping inside page 1 (R71, R72). -/
def pullCells (s : State) (k : Nat) : List Nat := (List.range k).map fun j => stackCell (s.s.toNat + (j + 1))

/-- The reads of `k` pulls (R71). -/
def pullReads (s : State) (k : Nat) : List Access := readsAt s (pullCells s k)

/-- The byte that pull number `k` brings, after the `k - 1` pulls before it (R71). -/
def stackByte (s : State) (k : Nat) : Byte :=
  answered (afterReadsAt s (pullCells s (k - 1))) (stackCell (s.s.toNat + k))

/-- The bytes last written once the writes among some transactions have been made, in order. -/
def writtenBy (m : Memory) : List Access → Memory
  | [] => m
  | q :: qs => writtenBy (if q.direction = .write then m.write q.addr.toNat q.data else m) qs

/-- The byte last written `k` cells above the stack pointer. -/
def stackHeld (s : State) (k : Nat) : Byte := s.mem.read (stackCell (s.s.toNat + k))

/-- One push (R70). -/
def pushed (s : State) (b : Byte) : State :=
  { s with
    s := BitVec.ofNat 8 (s.s.toNat + 255)
    mem := s.mem.write (stackCell s.s.toNat) b
    port := s.port ++ [⟨.write, BitVec.ofNat 16 (stackCell s.s.toNat), b⟩] }

/-- The high byte of a 16-bit number. -/
def high (w : Nat) : Byte := BitVec.ofNat 8 (w / 256)

/-- The low byte of a 16-bit number. -/
def low (w : Nat) : Byte := BitVec.ofNat 8 w

/-- The packed status byte as the sum R30 gives. -/
def packed (s : State) (b : Bool) : Byte :=
  BitVec.ofNat 8 (flagNat s.n * 128 + flagNat s.v * 64 + 32 + flagNat b * 16 + flagNat s.d * 8 + flagNat s.i * 4 +
    flagNat s.z * 2 + flagNat s.c)

/-- Bit `k` of a byte as a number. -/
def bit (p : Byte) (k : Nat) : Bool := decide (p.toNat / 2 ^ k % 2 = 1)

/-- The six flags taken from a pulled byte (R31). -/
def unpacked (s : State) (p : Byte) : State :=
  { s with n := bit p 7, v := bit p 6, d := bit p 3, i := bit p 2, z := bit p 1, c := bit p 0 }

/-- Entry into a handler (R307): the return address high byte first, then the status byte, are pushed; I is set; PC is
the word at the vector, read after the pushes. -/
def entered (s : State) (vec : Nat) (b : Bool) (ret : Nat) : State :=
  let t := pushed (pushed (pushed s (high ret)) (low ret)) (packed s b)
  { t with
    i := true
    pc := BitVec.ofNat 16 (wordAt t vec (vec + 1))
    port := t.port ++ readsAt t [vec, vec + 1] }

/-- A branch with its condition decided (R230, R231): `s.pc` is the address past the branch. -/
def branched (s : State) (taken : Bool) (off : Byte) : State :=
  let target := ((s.pc.toNat + off.toInt) % 65536).toNat
  if taken then
    spend (if target / 256 = s.pc.toNat / 256 then 3 else 4) { s with pc := BitVec.ofNat 16 target }
  else spend 2 s

/-- The result and carry out of the four shifts (R195 to R198), on numbers. -/
def shifted : Mnemonic → Nat → Bool → Nat × Bool
  | .asl, v, _ => (2 * v % 256, decide (v ≥ 128))
  | .lsr, v, _ => (v / 2, decide (v % 2 = 1))
  | .rol, v, c => (2 * v % 256 + flagNat c, decide (v ≥ 128))
  | .ror, v, c => (v / 2 + 128 * flagNat c, decide (v % 2 = 1))
  | _, v, c => (v, c)

/-- A shift or rotate of A (R194 to R198). -/
def shiftedAcc (s : State) (op : Mnemonic) : State :=
  let (r, c) := shifted op s.a.toNat s.c
  { withNZ s r with a := BitVec.ofNat 8 r, c := c }

/-- A shift or rotate of the byte at the effective address; A is untouched (R194 to R198). -/
def shiftedMem (s : State) (m : MemMode) (op : Mnemonic) : State :=
  let (r, c) := shifted op (operandByte s (.mem m)).toNat s.c
  { modified s m r with c := c }

/-- A signed sum lies outside -128 to 127 (R171, R175). -/
def outOfRange (k : Int) : Bool := decide (k < -128 ∨ 127 < k)

/-- Both digits of a byte are decimal (R172). -/
def validBcd (v : Byte) : Bool := decide (v.toNat / 16 ≤ 9) && decide (v.toNat % 16 ≤ 9)

/-- The two-digit decimal number of a byte. -/
def bcdValue (v : Byte) : Nat := v.toNat / 16 * 10 + v.toNat % 16

/-- A decimal digit sum corrected by 6 above 9, kept to four bits (R172). -/
def addDigit (k : Nat) : Nat := if k > 9 then (k + 6) % 16 else k

/-- A decimal digit difference corrected by 6 on a borrow, kept to four bits (R175). -/
def subDigit (k : Int) : Nat := ((if k < 0 then k - 6 else k) % 16).toNat

/-- The cells an instruction stores to, in order, with the address functions the meanings use: `resolve` for stores and
read-modify-write, `stackAddr` for pushes. -/
def storedTo (i : Instr) (s : State) : List Addr :=
  match i.mnemonic, i.mode with
  | .sta, .mem m | .stx, .mem m | .sty, .mem m | .inc, .mem m | .dec, .mem m => [(s.resolve m).ea]
  | .asl, .mem m | .lsr, .mem m | .rol, .mem m | .ror, .mem m => [(s.resolve m).ea]
  | .pha, _ | .php, _ => [stackAddr s.s]
  | .jsr, _ => [stackAddr s.s, stackAddr (s.s - 1)]
  | .brk, _ => [stackAddr s.s, stackAddr (s.s - 1), stackAddr (s.s - 2)]
  | _, _ => []

end Spec

end Sys2Proof
end

