-- ==== Sys2Proof/Certificates/Slice0/Obligations.lean ====
section
/-! DEFINITION. The statements for the provers. Each instruction statement says what `exec` answers, with PC already past
the instruction's bytes (R25); `StepRunsTheDecodedInstruction` ties `exec` to `step`. The addresses, results and flags
are those of Safety.lean, on numbers. The opcode bytes and base cycles in the rows are those of the rules' own Encodings
lines, which R96 marks as general knowledge, not in source (log 13). -/

section

open Sys2Proof Sys2Proof.Machine Sys2Proof.Spec

/-- Words of every family, written out from the encodings of 30_encoding.md R95 and R96, decode to the instructions
they stand for, with nothing left over. -/
def Obligations.DecodedWordsOfTheMatrix : Prop :=
  decode [0xA9, 0x10] = .ok (.ldaImm 0x10, []) ∧
  decode [0x9D, 0xF0, 0x12] = .ok (.staAbx 0x12F0, []) ∧
  decode [0x71, 0x40] = .ok (.adcIny 0x40, []) ∧
  decode [0x2C, 0x34, 0x12] = .ok (.bitAbs 0x1234, []) ∧
  decode [0x36, 0xF0] = .ok (.rolZpx 0xF0, []) ∧
  decode [0xC1, 0xFE] = .ok (.cmpInx 0xFE, []) ∧
  decode [0xCE, 0x00, 0x03] = .ok (.decAbs 0x0300, []) ∧
  decode [0xD0, 0xFB] = .ok (.bne 0xFB, []) ∧
  decode [0x6C, 0xFF, 0x10] = .ok (.jmpInd 0x10FF, []) ∧
  decode [0xBA] = .ok (.tsx, []) ∧
  decode [0x00] = .ok (.brk, []) ∧
  decode [0xFF] = .ok (.undoc 0xFF, [])

/-- For every well-formed instruction, with every operand value, decoding its words followed by any bytes gives that
instruction and leaves exactly those bytes. -/
def Obligations.DecodeOfEncodeIsTheInstruction : Prop :=
  ∀ (i : Instr) (rest : List Byte), i.wf = true → decode (encode i ++ rest) = .ok (i, rest)

/-- Whenever the decoder accepts a byte list, the instruction is well formed and its words followed by the rest are
that byte list: each word has one meaning. -/
def Obligations.EncodeOfDecodeIsTheWords : Prop :=
  ∀ (bytes rest : List Byte) (i : Instr), decode bytes = .ok (i, rest) → i.wf = true ∧ bytes = encode i ++ rest

/-- Every opcode byte decodes whatever bytes follow; mnemonic, mode and length depend on the opcode byte alone; the
length is the mode's, 1 to 3 bytes. -/
def Obligations.EveryOpcodeByteDecodesAloneToItsLength : Prop :=
  ∀ op b1 b2 c1 c2 : Byte, ∃ (i j : Instr) (r r' : List Byte),
    decode [op, b1, b2] = .ok (i, r) ∧ decode [op, c1, c2] = .ok (j, r') ∧
    i.mnemonic = j.mnemonic ∧ i.mode.name = j.mode.name ∧
    (encode i).length = i.mode.name.length ∧ (encode j).length = i.mode.name.length ∧
    r.length + i.mode.name.length = 3 ∧ r'.length + i.mode.name.length = 3

/-- An opcode byte decodes as the one-byte undocumented instruction carrying it exactly when it is in the list of 105
of R97 (which the spec marks as general knowledge). -/
def Obligations.ExactlyTheListedBytesAreUndocumented : Prop :=
  undocumentedBytes.length = 105 ∧ undocumentedBytes.Nodup ∧
    ∀ (op : Byte) (rest : List Byte), decode (op :: rest) = .ok (.undoc op, rest) ↔ op ∈ undocumentedBytes

/-- In Running with no interrupt to take, the step is exec of the instruction that the bytes the host answers from PC
on decode to, with PC moved past exactly its bytes modulo 65536, the port holding exactly the reads of those bytes in
address order, and the transactions of the step before moved to the history (logs 11 and 16: the form of the access
record). -/
def Obligations.StepRunsTheDecodedInstruction : Prop :=
  ∀ (s : State) (i : Instr) (rest : List Byte),
    s.rs = .running → s.nmiPending = false → (s.irqLine = false ∨ s.i = true) →
    decode ((readsAt (begun s) [s.pc.toNat, (s.pc.toNat + 1) % 65536, (s.pc.toNat + 2) % 65536]).map (·.data)) =
      .ok (i, rest) →
    step s = exec i
      { begun s with
        pc := BitVec.ofNat 16 (s.pc.toNat + i.mode.name.length)
        port := readsAt (begun s) ((List.range i.mode.name.length).map fun k => (s.pc.toNat + k) % 65536) }

/-- In Running with an NMI pending, the step clears the latch, pushes PC (high, low) and P with B = 0, sets I, takes
PC from 0xFFFA/0xFFFB and spends 7 cycles, whatever I and irq_line are; nothing else changes but the access record
(its form: logs 11 and 16). -/
def Obligations.PendingNmiIsServicedWhateverIIs : Prop :=
  ∀ s : State, s.rs = .running → s.nmiPending = true →
    step s = .next (spend 7 (entered { begun s with nmiPending := false } 0xFFFA false s.pc.toNat))

/-- In Running with no NMI pending, irq_line asserted and I = 0, the step pushes PC (high, low) and P with B = 0, sets
I, takes PC from 0xFFFE/0xFFFF and spends 7 cycles; irq_line and everything else is unchanged but the access record
(its form: logs 11 and 16). -/
def Obligations.UnmaskedIrqIsServiced : Prop :=
  ∀ s : State, s.rs = .running → s.nmiPending = false → s.irqLine = true → s.i = false →
    step s = .next (spend 7 (entered (begun s) 0xFFFE false s.pc.toNat))

/-- With I = 1 a step from a state with irq_line at one level and at the other ends in the same state but for irq_line
itself: IRQ is deferred, and there is no IRQ latch. -/
def Obligations.MaskedIrqLineHasNoEffect : Prop :=
  ∀ (s t : State) (level : Bool), s.i = true → step s = .next t →
    step { s with irqLine := level } = .next { t with irqLine := level }

/-- A step faults exactly in Stopped(op), with the fault that carries op, and no step is refused (decision D8 of the
spec: the stuck state; log 9: the fault is the model's form of it). -/
def Obligations.StoppedStepIsStuck : Prop :=
  (∀ (s : State) (r : Fault), step s = .fault r ↔ ∃ op, s.rs = .stopped op ∧ r = .stopped op) ∧
    ∀ (s : State) (r : Refusal), step s ≠ .refused r

/-- exec answers a next state for every instruction and state, and a step from Running always does: nothing but
UnsupportedOpcode stops the hardware, and that it is recorded in a next state is the model's reading of decision D8 of
the spec (log 9), as that the port always answers is R61. -/
def Obligations.EveryInstructionAnswersANextState : Prop :=
  (∀ (i : Instr) (s : State), ∃ t, exec i s = .next t) ∧ ∀ s : State, s.rs = .running → ∃ t, step s = .next t

/-- The RESET event, from any state and run state, sets S to 0xFD and I to 1, clears the NMI latch, returns to
Running, takes PC from the two bytes the host answers at the reset vector, sets CYC and the reported cycles to 7,
makes exactly the two vector reads, and leaves memory and the host's inputs alone (logs 11 and 16: the form of the
access record); A, X, Y and the other flags are not stated. -/
def Obligations.ResetEventRunsTheResetSequence : Prop :=
  ∀ s : State, ∃ t, deliver .reset s = .next t ∧
    t.s = 0xFD ∧ t.i = true ∧ t.nmiPending = false ∧ t.rs = .running ∧
    t.pc = BitVec.ofNat 16 (wordAt (begun s) 0xFFFC 0xFFFD) ∧
    t.cyc = 7 ∧ t.cyclesElapsed = 7 ∧ t.port = readsAt (begun s) [0xFFFC, 0xFFFD] ∧ t.past = s.past ++ s.port ∧
    t.mem = s.mem ∧ t.irqLine = s.irqLine ∧ t.undocNop = s.undocNop ∧ t.host = s.host

/-- State.reset is the result of the RESET sequence over plain RAM with nothing listed and no access before it, the
strap false and irq_line released, for the unknown values that log 3 names (the model's choice: logs 1, 2, 3, 4, 6, 7
and 16). -/
def Obligations.ResetStateIsAResetSequenceResult : Prop :=
  ∀ s : State, s.host = .plainRam → s.mem = [] → s.past = [] → s.port = [] →
    s.irqLine = false → s.undocNop = false → s.draws = 0 →
    State.reset = s.resetSequence ⟨0x00, 0x00, 0x00, false, false, false, false, false⟩

/-- An NMI edge sets the latch and nothing else, and a second edge changes nothing (decision D7 of the spec; log 8: in
Stopped too); a level or a byte written by another chip changes that alone (log 16: the general host sees that byte
through the bytes last written). -/
def Obligations.HostEventsTouchOnlyTheirInput : Prop :=
  ∀ s : State, ∃ t, deliver .nmiEdge s = .next t ∧ t = { s with nmiPending := true } ∧ deliver .nmiEdge t = .next t ∧
    (∀ level, deliver (.irqLine level) s = .next { s with irqLine := level }) ∧
    ∀ w v, deliver (.memory w v) s = .next { s with mem := s.mem.write w.toNat v }

/-- In every encoding the register named takes the operand byte, and N and Z are set from it. The accesses after the
fetch are those listed and no others, the cycles are the encoding's, and everything not named is unchanged. -/
def Obligations.LoadsTakeTheOperandAndSetNZ : Prop :=
  ∀ (i : Instr) (s : State),
    let m := operandByte s i.mode
    let t := withNZ (afterReads s i.mode) m.toNat
    (i.mnemonic = .lda → RunsAs i s
      [⟨0xA9, .imm, 2, false⟩, ⟨0xA5, .zp, 3, false⟩, ⟨0xB5, .zpx, 4, false⟩, ⟨0xAD, .abs, 4, false⟩,
       ⟨0xBD, .abx, 4, true⟩, ⟨0xB9, .aby, 4, true⟩, ⟨0xA1, .inx, 6, false⟩, ⟨0xB1, .iny, 5, true⟩]
      { t with a := m }) ∧
    (i.mnemonic = .ldx → RunsAs i s
      [⟨0xA2, .imm, 2, false⟩, ⟨0xA6, .zp, 3, false⟩, ⟨0xB6, .zpy, 4, false⟩, ⟨0xAE, .abs, 4, false⟩,
       ⟨0xBE, .aby, 4, true⟩]
      { t with x := m }) ∧
    (i.mnemonic = .ldy → RunsAs i s
      [⟨0xA0, .imm, 2, false⟩, ⟨0xA4, .zp, 3, false⟩, ⟨0xB4, .zpx, 4, false⟩, ⟨0xAC, .abs, 4, false⟩,
       ⟨0xBC, .abx, 4, true⟩]
      { t with y := m })

/-- In every encoding the byte at the effective address becomes the register named, by one write after the pointer
reads and with no read at that address; no flag or register changes and a page crossing adds no cycle. -/
def Obligations.StoresWriteTheRegisterAtEa : Prop :=
  ∀ (i : Instr) (s : State),
    (i.mnemonic = .sta → ∃ m, i.mode = .mem m ∧ RunsAs i s
      [⟨0x85, .zp, 3, false⟩, ⟨0x95, .zpx, 4, false⟩, ⟨0x8D, .abs, 4, false⟩, ⟨0x9D, .abx, 5, false⟩,
       ⟨0x99, .aby, 5, false⟩, ⟨0x81, .inx, 6, false⟩, ⟨0x91, .iny, 6, false⟩]
      (stored s m s.a)) ∧
    (i.mnemonic = .stx → ∃ m, i.mode = .mem m ∧ RunsAs i s
      [⟨0x86, .zp, 3, false⟩, ⟨0x96, .zpy, 4, false⟩, ⟨0x8E, .abs, 4, false⟩]
      (stored s m s.x)) ∧
    (i.mnemonic = .sty → ∃ m, i.mode = .mem m ∧ RunsAs i s
      [⟨0x84, .zp, 3, false⟩, ⟨0x94, .zpx, 4, false⟩, ⟨0x8C, .abs, 4, false⟩]
      (stored s m s.y))

/-- With D = 0, in every encoding, A takes A + m + C modulo 256, C is 1 exactly when the unsigned sum exceeds 255, V
is 1 exactly when the signed sum lies outside -128 to 127, N and Z follow the result. The accesses after the fetch are
those listed and no others, the cycles are the encoding's, and everything not named is unchanged. -/
def Obligations.AdcBinaryAddsWithCarry : Prop :=
  ∀ (i : Instr) (s : State), i.mnemonic = .adc → s.d = false →
    let m := operandByte s i.mode
    let sum := s.a.toNat + m.toNat + flagNat s.c
    RunsAs i s
      [⟨0x69, .imm, 2, false⟩, ⟨0x65, .zp, 3, false⟩, ⟨0x75, .zpx, 4, false⟩, ⟨0x6D, .abs, 4, false⟩,
       ⟨0x7D, .abx, 4, true⟩, ⟨0x79, .aby, 4, true⟩, ⟨0x61, .inx, 6, false⟩, ⟨0x71, .iny, 5, true⟩]
      { withNZ (afterReads s i.mode) (sum % 256) with
        a := BitVec.ofNat 8 sum
        v := outOfRange (s.a.toInt + m.toInt + flagNat s.c)
        c := decide (sum > 255) }

/-- With D = 1, in every encoding and for every operand byte, valid BCD or not, each digit sum is corrected by 6 above
9 and carries into the next, C is the decimal carry, V is the V of binary mode, N and Z follow the corrected result
(decisions D12 and D13 of the spec). The accesses after the fetch are those listed and no others, the cycles are the
encoding's, and everything not named is unchanged. -/
def Obligations.AdcDecimalAddsDigitByDigit : Prop :=
  ∀ (i : Instr) (s : State), i.mnemonic = .adc → s.d = true →
    let m := operandByte s i.mode
    let lo := s.a.toNat % 16 + m.toNat % 16 + flagNat s.c
    let hi := s.a.toNat / 16 + m.toNat / 16 + (if lo > 9 then 1 else 0)
    let r := addDigit hi * 16 + addDigit lo
    RunsAs i s
      [⟨0x69, .imm, 2, false⟩, ⟨0x65, .zp, 3, false⟩, ⟨0x75, .zpx, 4, false⟩, ⟨0x6D, .abs, 4, false⟩,
       ⟨0x7D, .abx, 4, true⟩, ⟨0x79, .aby, 4, true⟩, ⟨0x61, .inx, 6, false⟩, ⟨0x71, .iny, 5, true⟩]
      { withNZ (afterReads s i.mode) r with
        a := BitVec.ofNat 8 r
        v := outOfRange (s.a.toInt + m.toInt + flagNat s.c)
        c := decide (hi > 9) }

/-- For valid BCD bytes and either carry, the decimal sum is valid BCD, is the sum of the two two-digit numbers and
the carry modulo 100, and C is 1 exactly when that sum reaches 100 (decision D13 of the spec). -/
def Obligations.DecimalAddOfValidBcdIsTheTwoDigitSum : Prop :=
  ∀ (a m : Byte) (c : Bool), validBcd a = true → validBcd m = true →
    validBcd (adc true a m c).value = true ∧
    bcdValue (adc true a m c).value = (bcdValue a + bcdValue m + flagNat c) % 100 ∧
    (adc true a m c).carry = decide (bcdValue a + bcdValue m + flagNat c ≥ 100)

/-- With D = 0, in every encoding, A takes A - m - (1 - C) modulo 256, C is 1 exactly when A >= m + (1 - C), V is 1
exactly when the signed difference lies outside -128 to 127, N and Z follow the result (decisions D12 and D14 of the
spec). The accesses after the fetch are those listed and no others, the cycles are the encoding's, and everything not
named is unchanged. -/
def Obligations.SbcBinarySubtractsWithBorrow : Prop :=
  ∀ (i : Instr) (s : State), i.mnemonic = .sbc → s.d = false →
    let m := operandByte s i.mode
    let borrow : Nat := 1 - flagNat s.c
    let r := (((s.a.toNat : Int) - m.toNat - borrow) % 256).toNat
    RunsAs i s
      [⟨0xE9, .imm, 2, false⟩, ⟨0xE5, .zp, 3, false⟩, ⟨0xF5, .zpx, 4, false⟩, ⟨0xED, .abs, 4, false⟩,
       ⟨0xFD, .abx, 4, true⟩, ⟨0xF9, .aby, 4, true⟩, ⟨0xE1, .inx, 6, false⟩, ⟨0xF1, .iny, 5, true⟩]
      { withNZ (afterReads s i.mode) r with
        a := BitVec.ofNat 8 r
        v := outOfRange (s.a.toInt - m.toInt - borrow)
        c := decide (s.a.toNat ≥ m.toNat + borrow) }

/-- With D = 1, in every encoding and for every operand byte, valid BCD or not, each digit difference is corrected by
6 on a borrow and borrows from the next, C is the binary no-borrow, V is the V of binary mode, N and Z follow the
result (decisions D12, D13 and D14 of the spec). The accesses after the fetch are those listed and no others, the
cycles are the encoding's, and everything not named is unchanged. -/
def Obligations.SbcDecimalSubtractsDigitByDigit : Prop :=
  ∀ (i : Instr) (s : State), i.mnemonic = .sbc → s.d = true →
    let m := operandByte s i.mode
    let borrow : Nat := 1 - flagNat s.c
    let lo : Int := (s.a.toNat % 16 : Nat) - (m.toNat % 16 : Nat) - borrow
    let hi : Int := (s.a.toNat / 16 : Nat) - (m.toNat / 16 : Nat) - (if lo < 0 then 1 else 0)
    let r := subDigit hi * 16 + subDigit lo
    RunsAs i s
      [⟨0xE9, .imm, 2, false⟩, ⟨0xE5, .zp, 3, false⟩, ⟨0xF5, .zpx, 4, false⟩, ⟨0xED, .abs, 4, false⟩,
       ⟨0xFD, .abx, 4, true⟩, ⟨0xF9, .aby, 4, true⟩, ⟨0xE1, .inx, 6, false⟩, ⟨0xF1, .iny, 5, true⟩]
      { withNZ (afterReads s i.mode) r with
        a := BitVec.ofNat 8 r
        v := outOfRange (s.a.toInt - m.toInt - borrow)
        c := decide (s.a.toNat ≥ m.toNat + borrow) }

/-- For valid BCD bytes and either carry, the decimal difference is valid BCD, is a - m - (1 - C) modulo 100, and C is
1 exactly when a >= m + (1 - C) (decisions D13 and D14 of the spec). -/
def Obligations.DecimalSubtractOfValidBcdIsTheTwoDigitDifference : Prop :=
  ∀ (a m : Byte) (c : Bool), validBcd a = true → validBcd m = true →
    validBcd (sbc true a m c).value = true ∧
    (bcdValue (sbc true a m c).value : Int) = ((bcdValue a : Int) - bcdValue m - (1 - flagNat c : Nat)) % 100 ∧
    (sbc true a m c).carry = decide (bcdValue a ≥ bcdValue m + (1 - flagNat c))

/-- In every encoding A takes the byte whose every bit is the and, or, or exclusive or of A's and the operand's, and N
and Z are set from it. The accesses after the fetch are those listed and no others, the cycles are the encoding's, and
everything not named is unchanged. -/
def Obligations.LogicCombinesBitByBit : Prop :=
  ∀ (i : Instr) (s : State),
    let m := operandByte s i.mode
    let runs (rows : List Row) (f : Bool → Bool → Bool) : Prop :=
      ∃ r : Byte, (∀ k < 8, r.getLsbD k = f (s.a.getLsbD k) (m.getLsbD k)) ∧
        RunsAs i s rows { withNZ (afterReads s i.mode) r.toNat with a := r }
    (i.mnemonic = .and → runs
      [⟨0x29, .imm, 2, false⟩, ⟨0x25, .zp, 3, false⟩, ⟨0x35, .zpx, 4, false⟩, ⟨0x2D, .abs, 4, false⟩,
       ⟨0x3D, .abx, 4, true⟩, ⟨0x39, .aby, 4, true⟩, ⟨0x21, .inx, 6, false⟩, ⟨0x31, .iny, 5, true⟩] (fun p q => p && q)) ∧
    (i.mnemonic = .ora → runs
      [⟨0x09, .imm, 2, false⟩, ⟨0x05, .zp, 3, false⟩, ⟨0x15, .zpx, 4, false⟩, ⟨0x0D, .abs, 4, false⟩,
       ⟨0x1D, .abx, 4, true⟩, ⟨0x19, .aby, 4, true⟩, ⟨0x01, .inx, 6, false⟩, ⟨0x11, .iny, 5, true⟩] (fun p q => p || q)) ∧
    (i.mnemonic = .eor → runs
      [⟨0x49, .imm, 2, false⟩, ⟨0x45, .zp, 3, false⟩, ⟨0x55, .zpx, 4, false⟩, ⟨0x4D, .abs, 4, false⟩,
       ⟨0x5D, .abx, 4, true⟩, ⟨0x59, .aby, 4, true⟩, ⟨0x41, .inx, 6, false⟩, ⟨0x51, .iny, 5, true⟩] (fun p q => p != q))

/-- In both encodings Z is 1 exactly when A and the operand share no set bit, N and V are bits 7 and 6 of the operand,
whatever A is (the spec marks the rule as general knowledge, not in source). The accesses after the fetch are those
listed and no others, the cycles are the encoding's, and everything not named is unchanged. -/
def Obligations.BitTestsMemoryAgainstA : Prop :=
  ∀ (i : Instr) (s : State), i.mnemonic = .bit →
    let m := operandByte s i.mode
    RunsAs i s [⟨0x24, .zp, 3, false⟩, ⟨0x2C, .abs, 4, false⟩]
      { afterReads s i.mode with
        z := (List.range 8).all fun k => !(s.a.getLsbD k && m.getLsbD k)
        n := decide (m.toNat ≥ 128)
        v := decide (m.toNat % 128 ≥ 64) }

/-- In accumulator mode A, in the memory modes the byte at the effective address (one read, then one write and no
other access, decision D9 of the spec, log 13; A untouched), takes the value moved by one bit, C takes the bit shifted
out, rotates feed the old C in, N and Z follow the result; a page crossing adds no cycle. -/
def Obligations.ShiftsAndRotatesMoveOneBit : Prop :=
  ∀ (i : Instr) (s : State),
    (i.mnemonic = .asl →
      (i.mode = .acc ∧ RunsAs i s [⟨0x0A, .acc, 2, false⟩] (shiftedAcc s .asl)) ∨
      ∃ m, i.mode = .mem m ∧ RunsAs i s
        [⟨0x06, .zp, 5, false⟩, ⟨0x16, .zpx, 6, false⟩, ⟨0x0E, .abs, 6, false⟩, ⟨0x1E, .abx, 7, false⟩]
        (shiftedMem s m .asl)) ∧
    (i.mnemonic = .lsr →
      (i.mode = .acc ∧ RunsAs i s [⟨0x4A, .acc, 2, false⟩] (shiftedAcc s .lsr)) ∨
      ∃ m, i.mode = .mem m ∧ RunsAs i s
        [⟨0x46, .zp, 5, false⟩, ⟨0x56, .zpx, 6, false⟩, ⟨0x4E, .abs, 6, false⟩, ⟨0x5E, .abx, 7, false⟩]
        (shiftedMem s m .lsr)) ∧
    (i.mnemonic = .rol →
      (i.mode = .acc ∧ RunsAs i s [⟨0x2A, .acc, 2, false⟩] (shiftedAcc s .rol)) ∨
      ∃ m, i.mode = .mem m ∧ RunsAs i s
        [⟨0x26, .zp, 5, false⟩, ⟨0x36, .zpx, 6, false⟩, ⟨0x2E, .abs, 6, false⟩, ⟨0x3E, .abx, 7, false⟩]
        (shiftedMem s m .rol)) ∧
    (i.mnemonic = .ror →
      (i.mode = .acc ∧ RunsAs i s [⟨0x6A, .acc, 2, false⟩] (shiftedAcc s .ror)) ∨
      ∃ m, i.mode = .mem m ∧ RunsAs i s
        [⟨0x66, .zp, 5, false⟩, ⟨0x76, .zpx, 6, false⟩, ⟨0x6E, .abs, 6, false⟩, ⟨0x7E, .abx, 7, false⟩]
        (shiftedMem s m .ror))

/-- In every encoding C is 1 exactly when the register is at least the operand, N and Z are those of the difference
modulo 256, whatever D and the old C are; V and the register are unchanged. The accesses after the fetch are those
listed and no others, the cycles are the encoding's, and everything not named is unchanged. -/
def Obligations.ComparesSetFlagsOnly : Prop :=
  ∀ (i : Instr) (s : State),
    let m := (operandByte s i.mode).toNat
    let compared (r : Nat) : State := { withNZ (afterReads s i.mode) ((r + 256 - m) % 256) with c := decide (r ≥ m) }
    (i.mnemonic = .cmp → RunsAs i s
      [⟨0xC9, .imm, 2, false⟩, ⟨0xC5, .zp, 3, false⟩, ⟨0xD5, .zpx, 4, false⟩, ⟨0xCD, .abs, 4, false⟩,
       ⟨0xDD, .abx, 4, true⟩, ⟨0xD9, .aby, 4, true⟩, ⟨0xC1, .inx, 6, false⟩, ⟨0xD1, .iny, 5, true⟩]
      (compared s.a.toNat)) ∧
    (i.mnemonic = .cpx → RunsAs i s [⟨0xE0, .imm, 2, false⟩, ⟨0xE4, .zp, 3, false⟩, ⟨0xEC, .abs, 4, false⟩]
      (compared s.x.toNat)) ∧
    (i.mnemonic = .cpy → RunsAs i s [⟨0xC0, .imm, 2, false⟩, ⟨0xC4, .zp, 3, false⟩, ⟨0xCC, .abs, 4, false⟩]
      (compared s.y.toNat))

/-- In every encoding the byte at the effective address is read once and written once with its value plus or minus one
modulo 256; N and Z follow it; C, V and A are unchanged and a page crossing adds no cycle. -/
def Obligations.IncAndDecStepMemory : Prop :=
  ∀ (i : Instr) (s : State),
    (i.mnemonic = .inc → ∃ m, i.mode = .mem m ∧ RunsAs i s
      [⟨0xE6, .zp, 5, false⟩, ⟨0xF6, .zpx, 6, false⟩, ⟨0xEE, .abs, 6, false⟩, ⟨0xFE, .abx, 7, false⟩]
      (modified s m (((operandByte s (.mem m)).toNat + 1) % 256))) ∧
    (i.mnemonic = .dec → ∃ m, i.mode = .mem m ∧ RunsAs i s
      [⟨0xC6, .zp, 5, false⟩, ⟨0xD6, .zpx, 6, false⟩, ⟨0xCE, .abs, 6, false⟩, ⟨0xDE, .abx, 7, false⟩]
      (modified s m (((operandByte s (.mem m)).toNat + 255) % 256)))

/-- The index register takes its value plus or minus one modulo 256, N and Z follow it, and nothing else but the
cycles changes. -/
def Obligations.IndexRegistersStepModulo256 : Prop :=
  ∀ s : State,
    RunsAs .inx s [⟨0xE8, .imp, 2, false⟩]
      { withNZ s ((s.x.toNat + 1) % 256) with x := BitVec.ofNat 8 (s.x.toNat + 1) } ∧
    RunsAs .dex s [⟨0xCA, .imp, 2, false⟩]
      { withNZ s ((s.x.toNat + 255) % 256) with x := BitVec.ofNat 8 (s.x.toNat + 255) } ∧
    RunsAs .iny s [⟨0xC8, .imp, 2, false⟩]
      { withNZ s ((s.y.toNat + 1) % 256) with y := BitVec.ofNat 8 (s.y.toNat + 1) } ∧
    RunsAs .dey s [⟨0x88, .imp, 2, false⟩]
      { withNZ s ((s.y.toNat + 255) % 256) with y := BitVec.ofNat 8 (s.y.toNat + 255) }

/-- Each branch, on its own flag and polarity, leaves PC past itself in 2 cycles when not taken, and otherwise moves
it by the signed offset modulo 65536 in 3 cycles, or 4 when the target lies in another page than the advanced PC;
nothing else changes. -/
def Obligations.BranchesMovePcByTheSignedOffset : Prop :=
  ∀ (s : State) (off : Byte),
    ((Instr.bpl off).opcode = 0x10 ∧ exec (.bpl off) s = .next (branched s (!s.n) off)) ∧
    ((Instr.bmi off).opcode = 0x30 ∧ exec (.bmi off) s = .next (branched s (s.n) off)) ∧
    ((Instr.bvc off).opcode = 0x50 ∧ exec (.bvc off) s = .next (branched s (!s.v) off)) ∧
    ((Instr.bvs off).opcode = 0x70 ∧ exec (.bvs off) s = .next (branched s (s.v) off)) ∧
    ((Instr.bcc off).opcode = 0x90 ∧ exec (.bcc off) s = .next (branched s (!s.c) off)) ∧
    ((Instr.bcs off).opcode = 0xB0 ∧ exec (.bcs off) s = .next (branched s (s.c) off)) ∧
    ((Instr.bne off).opcode = 0xD0 ∧ exec (.bne off) s = .next (branched s (!s.z) off)) ∧
    ((Instr.beq off).opcode = 0xF0 ∧ exec (.beq off) s = .next (branched s (s.z) off))

/-- JMP absolute sets PC to its operand in 3 cycles; JMP indirect sets PC to the word whose low byte is at the pointer
and whose high byte is at the next address of the same page, in 5 cycles with those two reads in that order; nothing
else changes. -/
def Obligations.JumpsTakeTheirTarget : Prop :=
  ∀ (s : State) (w : Addr),
    RunsAs (.jmpAbs w) s [⟨0x4C, .abs, 3, false⟩] { s with pc := w } ∧
    RunsAs (.jmpInd w) s [⟨0x6C, .ind, 5, false⟩]
      { s with
        pc := BitVec.ofNat 16 (wordAt s w.toNat (pageSuccessor w.toNat))
        port := s.port ++ readsAt s [w.toNat, pageSuccessor w.toNat] }

/-- JSR pushes PC - 1 modulo 65536 (PC being past the JSR), high byte then low byte, S wrapping inside page 1, and
sets PC to its operand in 6 cycles; nothing else changes. -/
def Obligations.JsrPushesItsLastByteAddress : Prop :=
  ∀ (s : State) (w : Addr),
    let ret := (s.pc.toNat + 65535) % 65536
    RunsAs (.jsr w) s [⟨0x20, .abs, 6, false⟩] { pushed (pushed s (high ret)) (low ret) with pc := w }

/-- RTS pulls two bytes, low then high, S wrapping inside page 1, and sets PC to the word plus 1 modulo 65536 in 6
cycles; nothing else changes. -/
def Obligations.RtsReturnsPastThePulledAddress : Prop :=
  ∀ s : State,
    RunsAs .rts s [⟨0x60, .imp, 6, false⟩]
      { s with
        s := BitVec.ofNat 8 (s.s.toNat + 2)
        pc := BitVec.ofNat 16 ((stackByte s 2).toNat * 256 + (stackByte s 1).toNat + 1)
        port := s.port ++ pullReads s 2 }

/-- PHA writes A and PHP writes the packed P with bits 5 and 4 both 1 at the stack cell, then S decrements modulo 256,
in 3 cycles; no flag or other register changes. -/
def Obligations.PushesWriteAAndP : Prop :=
  ∀ s : State,
    RunsAs .pha s [⟨0x48, .imp, 3, false⟩] (pushed s s.a) ∧
    RunsAs .php s [⟨0x08, .imp, 3, false⟩] (pushed s (packed s true)) ∧
    packed s true &&& 0x30 = 0x30

/-- PLA and PLP increment S modulo 256 and read the cell there in 4 cycles; PLA loads A and sets N and Z; PLP loads N,
V, D, I, Z, C from bits 7, 6, 3, 2, 1, 0 and bits 5 and 4 are dropped; nothing else changes. -/
def Obligations.PullsLoadAAndTheFlags : Prop :=
  ∀ s : State,
    let p := stackByte s 1
    let t : State := { s with s := BitVec.ofNat 8 (s.s.toNat + 1), port := s.port ++ pullReads s 1 }
    RunsAs .pla s [⟨0x68, .imp, 4, false⟩] { withNZ t p.toNat with a := p } ∧
    RunsAs .plp s [⟨0x28, .imp, 4, false⟩] (unpacked t p)

/-- The destination takes the source and N and Z are set from it, but TXS writes no flag; the source and all else is
unchanged, 2 cycles each (the spec marks the rules of TAX, TAY, TXA, TYA, and the flags of TSX and TXS, as general
knowledge, not in source). -/
def Obligations.TransfersCopyOneRegister : Prop :=
  ∀ s : State,
    RunsAs .tsx s [⟨0xBA, .imp, 2, false⟩]
      { withNZ s s.s.toNat with x := s.s } ∧
    RunsAs .txs s [⟨0x9A, .imp, 2, false⟩]
      { s with s := s.x } ∧
    RunsAs .tax s [⟨0xAA, .imp, 2, false⟩]
      { withNZ s s.a.toNat with x := s.a } ∧
    RunsAs .tay s [⟨0xA8, .imp, 2, false⟩]
      { withNZ s s.a.toNat with y := s.a } ∧
    RunsAs .txa s [⟨0x8A, .imp, 2, false⟩]
      { withNZ s s.x.toNat with a := s.x } ∧
    RunsAs .tya s [⟨0x98, .imp, 2, false⟩]
      { withNZ s s.y.toNat with a := s.y }

/-- Each writes its one flag with its one value in 2 cycles and changes nothing else (the spec marks these rules as
general knowledge, not in source). -/
def Obligations.FlagInstructionsWriteOneFlag : Prop :=
  ∀ s : State,
    RunsAs .clc s [⟨0x18, .imp, 2, false⟩]
      { s with c := false } ∧
    RunsAs .sec s [⟨0x38, .imp, 2, false⟩]
      { s with c := true } ∧
    RunsAs .cli s [⟨0x58, .imp, 2, false⟩]
      { s with i := false } ∧
    RunsAs .sei s [⟨0x78, .imp, 2, false⟩]
      { s with i := true } ∧
    RunsAs .cld s [⟨0xD8, .imp, 2, false⟩]
      { s with d := false } ∧
    RunsAs .sed s [⟨0xF8, .imp, 2, false⟩]
      { s with d := true } ∧
    RunsAs .clv s [⟨0xB8, .imp, 2, false⟩]
      { s with v := false }

/-- NOP adds 2 cycles and changes nothing else; the one memory read of the step is its opcode fetch (logs 11 and 16:
the form of the access record). -/
def Obligations.NopOnlySpendsCycles : Prop :=
  ∀ s : State, RunsAs .nop s [⟨0xEA, .imp, 2, false⟩] s ∧
    (s.rs = .running → s.nmiPending = false → (s.irqLine = false ∨ s.i = true) → answered (begun s) s.pc.toNat = 0xEA →
      step s = .next (spend 2
        { begun s with pc := BitVec.ofNat 16 (s.pc.toNat + 1), port := readsAt (begun s) [s.pc.toNat] }))

/-- BRK pushes PC + 1 (PC being past the opcode, so the padding byte is skipped and not read), then P as it was with
bits 5 and 4 set, sets I, takes PC from 0xFFFE/0xFFFF, in 7 cycles, whatever I is; D and all else is unchanged. -/
def Obligations.BrkEntersTheSharedVector : Prop :=
  ∀ s : State, RunsAs .brk s [⟨0x00, .imp, 7, false⟩] (entered s 0xFFFE true ((s.pc.toNat + 1) % 65536))

/-- RTI pulls the status byte into the six flags (bits 5 and 4 dropped), then the low and the high byte of PC with
nothing added, S wrapping inside page 1, in 6 cycles; nothing else changes (the spec marks the rule as general
knowledge, not in source). -/
def Obligations.RtiRestoresFlagsAndExactAddress : Prop :=
  ∀ s : State,
    RunsAs .rti s [⟨0x40, .imp, 6, false⟩]
      { unpacked s (stackByte s 1) with
        s := BitVec.ofNat 8 (s.s.toNat + 3)
        pc := BitVec.ofNat 16 ((stackByte s 3).toNat * 256 + (stackByte s 2).toNat)
        port := s.port ++ pullReads s 3 }

/-- With UNDOC_NOP true an undocumented opcode spends 2 cycles and changes nothing else; with it false the core
becomes Stopped(op), no cycle is spent or reported, and nothing else changes (decisions D8 and D11 of the spec). -/
def Obligations.UndocumentedOpcodeByTheStrap : Prop :=
  ∀ (s : State) (op : Byte),
    (s.undocNop = true → exec (.undoc op) s = .next (spend 2 s)) ∧
    (s.undocNop = false → exec (.undoc op) s = .next { s with rs := .stopped op, cyclesElapsed := 0 })

/-- For every mode and state the resolver's effective address and page crossing are the spec's arithmetic on numbers,
with every wrap, and it changes nothing but the port, which gains the pointer reads, low byte first. -/
def Obligations.ModesResolveByTheSpecsArithmetic : Prop :=
  ∀ (s : State) (m : MemMode),
    (s.resolve m).ea.toNat = effectiveAddress s m ∧ (s.resolve m).crossed = crossed s m ∧
    (s.resolve m).after = { s with port := s.port ++ pointerReads s m }

/-- Pack(b) is N*128 + V*64 + 32 + b*16 + D*8 + I*4 + Z*2 + C; Unpack takes the six flags from bits 7, 6, 3, 2, 1, 0
and changes nothing else; Unpack(Pack(b)) leaves the state as it was. -/
def Obligations.PackAndUnpackTheStatusByte : Prop :=
  ∀ (s : State) (b : Bool) (p : Byte),
    s.pack b = packed s b ∧ s.unpack p = unpacked s p ∧ s.unpack (s.pack b) = s

/-- After a JSR, an RTS in any state with the same S whose two pulls bring the bytes last written in those stack
cells, as plain RAM answers while nothing else is written there (log 1, decision D17 of the spec), returns PC to the
instruction after the JSR and S to its value before, whatever the operand. -/
def Obligations.JsrThenRtsReturns : Prop :=
  ∀ (s : State) (w : Addr), s.mem.wf = true → ∃ t, exec (.jsr w) s = .next t ∧
    ∀ t' : State, t'.s = t.s → stackByte t' 1 = stackHeld t 1 → stackByte t' 2 = stackHeld t 2 →
      ∃ u, exec .rts t' = .next u ∧ u.pc = s.pc ∧ u.s = s.s

/-- After a PHP, a PLP in any state with the same S whose pull brings the byte last written in that stack cell, as
plain RAM answers while nothing else is written there (log 1, decision D17 of the spec), restores N, V, D, I, Z, C and
S to what they were before the PHP. -/
def Obligations.PhpThenPlpRestoresTheFlags : Prop :=
  ∀ s : State, s.mem.wf = true → ∃ t, exec .php s = .next t ∧
    ∀ t' : State, t'.s = t.s → stackByte t' 1 = stackHeld t 1 →
      ∃ u, exec .plp t' = .next u ∧ u.s = s.s ∧
        u.n = s.n ∧ u.v = s.v ∧ u.d = s.d ∧ u.i = s.i ∧ u.z = s.z ∧ u.c = s.c

/-- After an interrupt service or a BRK, an RTI in any state with the same S whose three pulls bring the bytes last
written in those stack cells, as plain RAM answers while nothing else is written there (log 1, decision D17 of the
spec), restores all six flags, I among them, and S, and resumes at exactly the interrupted PC, or for BRK at its
address + 2. -/
def Obligations.RtiUndoesEveryHandlerEntry : Prop :=
  ∀ s : State, s.mem.wf = true →
    let returns (t : State) (pc : Addr) : Prop :=
      ∀ t' : State, t'.s = t.s →
        stackByte t' 1 = stackHeld t 1 → stackByte t' 2 = stackHeld t 2 → stackByte t' 3 = stackHeld t 3 →
        ∃ u, exec .rti t' = .next u ∧ u.pc = pc ∧ u.s = s.s ∧
          u.n = s.n ∧ u.v = s.v ∧ u.d = s.d ∧ u.i = s.i ∧ u.z = s.z ∧ u.c = s.c
    (∃ t, exec .brk s = .next t ∧ returns t (s.pc + 1)) ∧
    (s.rs = .running → (s.nmiPending = true ∨ (s.irqLine = true ∧ s.i = false)) →
      ∃ t, step s = .next t ∧ returns t s.pc)

/-- From every state that meets the invariant (memory in canonical form; the reported cycles part of CYC; Stopped(op)
only for an undocumented op with UNDOC_NOP false), a step that answers a next state answers one that meets it. -/
def Obligations.StepKeepsTheInvariant : Prop :=
  ∀ s t : State, s.inv = true → step s = .next t → t.inv = true

/-- From every state that meets the invariant, any event of the host that answers a next state answers one that meets
it. -/
def Obligations.EveryHostEventKeepsTheInvariant : Prop :=
  ∀ (s t : State) (e : Event), s.inv = true → deliver e s = .next t → t.inv = true

/-- The state right after reset meets the invariant. -/
def Obligations.ResetMeetsTheInvariant : Prop :=
  State.reset.inv = true

/-- For every instruction and state, N, V, D, I, Z and C are each unchanged unless the instruction is one the spec's
complete list names for that flag. -/
def Obligations.FlagsChangeOnlyWhereTheListSays : Prop :=
  ∀ (i : Instr) (s t : State), exec i s = .next t →
    (i.mnemonic ∉ [.lda, .ldx, .ldy, .adc, .sbc, .and, .ora, .eor, .asl, .lsr, .rol, .ror, .cmp, .cpx, .cpy,
      .inc, .dec, .inx, .dex, .iny, .dey, .pla, .tax, .tay, .txa, .tya, .tsx, .bit, .plp, .rti] → t.n = s.n) ∧
    (i.mnemonic ∉ [.adc, .sbc, .bit, .clv, .plp, .rti] → t.v = s.v) ∧
    (i.mnemonic ∉ [.sed, .cld, .plp, .rti] → t.d = s.d) ∧
    (i.mnemonic ∉ [.sei, .cli, .plp, .rti, .brk] → t.i = s.i) ∧
    (i.mnemonic ∉ [.lda, .ldx, .ldy, .adc, .sbc, .and, .ora, .eor, .asl, .lsr, .rol, .ror, .cmp, .cpx, .cpy,
      .inc, .dec, .inx, .dex, .iny, .dey, .pla, .tax, .tay, .txa, .tya, .tsx, .bit, .plp, .rti] → t.z = s.z) ∧
    (i.mnemonic ∉ [.adc, .sbc, .cmp, .cpx, .cpy, .asl, .lsr, .rol, .ror, .sec, .clc, .plp, .rti] → t.c = s.c)

/-- For every instruction and state, A, X, Y and S are unchanged unless the instruction is one the spec names as a
writer of that register (a shift of memory does not write A), and PC, already past the instruction, is unchanged but
for branches, jumps, calls, returns and BRK. -/
def Obligations.RegistersChangeOnlyWhereTheListSays : Prop :=
  ∀ (i : Instr) (s t : State), exec i s = .next t →
    (i.mnemonic ∉ [.lda, .adc, .sbc, .and, .ora, .eor, .pla, .txa, .tya, .asl, .lsr, .rol, .ror] → t.a = s.a) ∧
    (i.mnemonic ∈ [.asl, .lsr, .rol, .ror] → i.mode ≠ .acc → t.a = s.a) ∧
    (i.mnemonic ∉ [.ldx, .tax, .tsx, .inx, .dex] → t.x = s.x) ∧
    (i.mnemonic ∉ [.ldy, .tay, .iny, .dey] → t.y = s.y) ∧
    (i.mnemonic ∉ [.pha, .pla, .php, .plp, .txs, .jsr, .rts, .brk, .rti] → t.s = s.s) ∧
    (i.mnemonic ∉ [.bpl, .bmi, .bvc, .bvs, .bcc, .bcs, .bne, .beq, .jmp, .jsr, .rts, .brk, .rti] → t.pc = s.pc)

/-- For every instruction and state, at every address outside the cells the instruction stores to (the resolved
effective address of a store or read-modify-write, the stack cells of PHA, PHP, JSR and BRK, none otherwise) the byte
last written is as before: so plain RAM reads there as before (log 1). -/
def Obligations.StoresReachOnlyTheComputedCells : Prop :=
  ∀ (i : Instr) (s t : State), exec i s = .next t →
    ∀ k : Nat, (∀ w ∈ storedTo i s, k ≠ w.toNat) → t.mem.read k = s.mem.read k

/-- In every step, an interrupt service included, the bytes last written are those before it with the writes of the
step's port made in order, so that an address that none of them names keeps its byte, and the transactions of the step
before join the access history (logs 11 and 16). -/
def Obligations.MemoryChangesOnlyThroughThePort : Prop :=
  ∀ s t : State, step s = .next t →
    t.mem = writtenBy s.mem t.port ∧ t.past = s.past ++ s.port ∧
    ∀ k : Nat, (∀ q ∈ t.port, q.direction = .write → q.addr.toNat ≠ k) → t.mem.read k = s.mem.read k

/-- In every step, each read transaction carries, on plain RAM, the byte last written at its address, a write earlier
in the step included, and so the byte held when the step began where the step never writes; on the general host, the
oracle's byte for its address, the bytes written and every access before it (decision D17 of the spec, logs 1 and 16).
-/
def Obligations.EveryReadCarriesTheHostsAnswer : Prop :=
  ∀ s t : State, step s = .next t →
    (∀ (before after : List Access) (q : Access), t.port = before ++ q :: after → q.direction = .read →
      (s.host = .plainRam → q.data = (writtenBy s.mem before).read q.addr.toNat) ∧
      (s.host = .general →
        q.data = Config.hostAnswer (writtenBy s.mem before) (s.past ++ s.port ++ before) q.addr)) ∧
    (s.host = .plainRam →
      ∀ q ∈ t.port, q.direction = .read → (∀ p ∈ t.port, p.direction = .write → p.addr ≠ q.addr) →
        q.data = s.mem.read q.addr.toNat)

/-- Every step that answers a next state made at most six transactions of the memory port: no dummy access is among
them (decision D9 of the spec, log 13). -/
def Obligations.StepMakesAtMostSixAccesses : Prop :=
  ∀ s t : State, step s = .next t → t.port.length ≤ 6

/-- Every step adds to CYC exactly the cycle count it reports. -/
def Obligations.EveryStepAddsItsReportedCycles : Prop :=
  ∀ s t : State, step s = .next t → t.cyc = s.cyc + t.cyclesElapsed

/-- Every instruction but an undocumented opcode reports between 2 and 7 cycles. -/
def Obligations.DocumentedInstructionsTakeTwoToSevenCycles : Prop :=
  ∀ (i : Instr) (s t : State), i.mnemonic ≠ .undoc → exec i s = .next t → 2 ≤ t.cyclesElapsed ∧ t.cyclesElapsed ≤ 7

/-- Two steps from states that differ only in CYC end in states that differ only in CYC, each grown by the same
reported cycles. -/
def Obligations.NoStepReadsTheCycleCounter : Prop :=
  ∀ (s t : State) (k : Nat), step s = .next t → step { s with cyc := k } = .next { t with cyc := k + t.cyclesElapsed }

/-- For every instruction but ADC, SBC, PHP and BRK, two runs from states that differ only in D end in states that
differ at most in D. -/
def Obligations.DecimalFlagAffectsOnlyAdcAndSbc : Prop :=
  ∀ (i : Instr) (s t : State) (b : Bool), i.mnemonic ∉ [.adc, .sbc, .php, .brk] → exec i s = .next t →
    ∃ u, exec i { s with d := b } = .next u ∧ { u with d := t.d } = t

/-- No step changes irq_line, the strap UNDOC_NOP, the parameter HOST (log 16) or the model's own count of drawn free
values (the model's choice: log 4), and after a step no NMI is pending: a pending one was serviced by it (decision D7
of the spec). -/
def Obligations.StepLeavesTheHostsInputsAlone : Prop :=
  ∀ s t : State, step s = .next t →
    t.irqLine = s.irqLine ∧ t.undocNop = s.undocNop ∧ t.host = s.host ∧ t.draws = s.draws ∧ t.nmiPending = false

/-- If a step ends in Stopped(op), UNDOC_NOP is false, op is undocumented and was answered at PC, PC is now one past
it, no cycle is reported and only that one byte was accessed (decision D8 of the spec). -/
def Obligations.OnlyUndocumentedOpcodesStopTheCore : Prop :=
  ∀ (s t : State) (op : Byte), step s = .next t → t.rs = .stopped op →
    s.undocNop = false ∧ isUndocumented op = true ∧ answered (begun s) s.pc.toNat = op ∧ t.pc = s.pc + 1 ∧
    t.cyclesElapsed = 0 ∧ t.mem = s.mem ∧ t.port = readsAt (begun s) [s.pc.toNat]

end
end

