-- ==== Sys2Proof/Laws/Memory.lean ====
section
/-! SUPPORT. The laws of memory: every operation keeps the canonical form, a write is read back, and it leaves every
other address alone. -/

namespace Sys2Proof.Machine

/-- A canonical tail may start lower. -/
theorem Memory.wfFrom_mono {low low' : Nat} {m : Memory} (h : Memory.wfFrom low m = true) (hl : low' ≤ low) :
    Memory.wfFrom low' m = true := by
  cases m with
  | nil => rfl
  | cons c rest =>
    obtain ⟨k, b⟩ := c
    simp only [Memory.wfFrom, Bool.and_eq_true, decide_eq_true_eq] at h ⊢
    exact ⟨⟨⟨by omega, h.1.1.2⟩, h.1.2⟩, h.2⟩

theorem Memory.wfFrom_place {low a : Nat} {v : Byte} {m : Memory} (h : Memory.wfFrom (a + 1) m = true) (hl : low ≤ a)
    (ha : a < 65536) : Memory.wfFrom low (Memory.place a v m) = true := by
  unfold Memory.place
  split
  · exact Memory.wfFrom_mono h (by omega)
  · simp_all [Memory.wfFrom]

/-- Below its lowest cell a canonical memory reads as unlisted. -/
theorem Memory.read_below {low a : Nat} {m : Memory} (h : Memory.wfFrom low m = true) (ha : a < low) :
    Memory.read m a = Memory.unlisted := by
  induction m generalizing low with
  | nil => rfl
  | cons c rest ih =>
    obtain ⟨k, b⟩ := c
    simp only [Memory.wfFrom, Bool.and_eq_true, decide_eq_true_eq] at h
    rw [Memory.read, if_neg (by omega)]
    exact ih h.2 (by omega)

theorem Memory.wfFrom_write {low a : Nat} {v : Byte} {m : Memory} (h : Memory.wfFrom low m = true) (hl : low ≤ a)
    (ha : a < 65536) : Memory.wfFrom low (Memory.write m a v) = true := by
  induction m generalizing low with
  | nil => exact Memory.wfFrom_place rfl hl ha
  | cons c rest ih =>
    obtain ⟨k, b⟩ := c
    have hc := h
    simp only [Memory.wfFrom, Bool.and_eq_true, decide_eq_true_eq] at hc
    unfold Memory.write
    split
    · exact Memory.wfFrom_place (by simp_all [Memory.wfFrom]) hl ha
    · split
      · exact Memory.wfFrom_place (Memory.wfFrom_mono hc.2 (by omega)) hl ha
      · simp only [Memory.wfFrom, Bool.and_eq_true, decide_eq_true_eq]
        exact ⟨hc.1, ih hc.2 (by omega)⟩

/-- Every write at an address of the 16-bit space keeps the canonical form. -/
theorem Memory.wf_write {m : Memory} {a : Nat} {v : Byte} (h : m.wf = true) (ha : a < 65536) :
    (m.write a v).wf = true :=
  Memory.wfFrom_write h (Nat.zero_le _) ha

theorem Memory.read_place_same (m : Memory) (a : Nat) (v : Byte)
    (h : Memory.read m a = Memory.unlisted) : Memory.read (Memory.place a v m) a = v := by
  unfold Memory.place
  split <;> simp_all [Memory.read]

theorem Memory.read_place_other (m : Memory) {a b : Nat} (v : Byte) (h : b ≠ a) :
    Memory.read (Memory.place a v m) b = Memory.read m b := by
  unfold Memory.place
  split
  · rfl
  · rw [Memory.read, if_neg (Ne.symm h)]

/-- A write leaves every other address alone, in any memory. -/
theorem Memory.read_write_other (m : Memory) {a b : Nat} (v : Byte) (h : b ≠ a) :
    Memory.read (Memory.write m a v) b = Memory.read m b := by
  induction m with
  | nil => exact Memory.read_place_other [] v h
  | cons c rest ih =>
    obtain ⟨k, w⟩ := c
    unfold Memory.write
    split
    · exact Memory.read_place_other _ v h
    · split
      · next heq =>
        subst heq
        rw [Memory.read_place_other _ v h, Memory.read, if_neg (Ne.symm h)]
      · simp only [Memory.read, ih]

theorem Memory.read_write_same_from {low a : Nat} {v : Byte} {m : Memory} (h : Memory.wfFrom low m = true) :
    Memory.read (Memory.write m a v) a = v := by
  induction m generalizing low with
  | nil => exact Memory.read_place_same [] a v rfl
  | cons c rest ih =>
    obtain ⟨k, w⟩ := c
    have hc := h
    simp only [Memory.wfFrom, Bool.and_eq_true, decide_eq_true_eq] at hc
    unfold Memory.write
    split
    · next hlt =>
      refine Memory.read_place_same _ a v ?_
      rw [Memory.read, if_neg (by omega)]
      exact Memory.read_below hc.2 (by omega)
    · split
      · next heq => exact Memory.read_place_same _ a v (Memory.read_below hc.2 (by omega))
      · next hne =>
        rw [Memory.read, if_neg (Ne.symm hne)]
        exact ih hc.2

/-- A write is read back, in a canonical memory. -/
theorem Memory.read_write_same {m : Memory} (a : Nat) (v : Byte) (h : m.wf = true) :
    Memory.read (m.write a v) a = v :=
  Memory.read_write_same_from h

end Sys2Proof.Machine
end

