-- ==== Sys2Proof/Laws/State.lean ====
section
/-! SUPPORT. What each named update of the state does to each field, one lemma per field per update. -/

namespace Sys2Proof.Machine

@[simp] theorem setA_a (t : State) (r : Byte) : (t.setA r).a = r := rfl
@[simp] theorem setA_x (t : State) (r : Byte) : (t.setA r).x = t.x := rfl
@[simp] theorem setA_y (t : State) (r : Byte) : (t.setA r).y = t.y := rfl
@[simp] theorem setA_s (t : State) (r : Byte) : (t.setA r).s = t.s := rfl
@[simp] theorem setA_pc (t : State) (r : Byte) : (t.setA r).pc = t.pc := rfl
@[simp] theorem setA_n (t : State) (r : Byte) : (t.setA r).n = t.n := rfl
@[simp] theorem setA_v (t : State) (r : Byte) : (t.setA r).v = t.v := rfl
@[simp] theorem setA_d (t : State) (r : Byte) : (t.setA r).d = t.d := rfl
@[simp] theorem setA_i (t : State) (r : Byte) : (t.setA r).i = t.i := rfl
@[simp] theorem setA_z (t : State) (r : Byte) : (t.setA r).z = t.z := rfl
@[simp] theorem setA_c (t : State) (r : Byte) : (t.setA r).c = t.c := rfl
@[simp] theorem setA_nmiPending (t : State) (r : Byte) : (t.setA r).nmiPending = t.nmiPending := rfl
@[simp] theorem setA_irqLine (t : State) (r : Byte) : (t.setA r).irqLine = t.irqLine := rfl
@[simp] theorem setA_undocNop (t : State) (r : Byte) : (t.setA r).undocNop = t.undocNop := rfl
@[simp] theorem setA_rs (t : State) (r : Byte) : (t.setA r).rs = t.rs := rfl
@[simp] theorem setA_cyc (t : State) (r : Byte) : (t.setA r).cyc = t.cyc := rfl
@[simp] theorem setA_cyclesElapsed (t : State) (r : Byte) : (t.setA r).cyclesElapsed = t.cyclesElapsed := rfl
@[simp] theorem setA_port (t : State) (r : Byte) : (t.setA r).port = t.port := rfl
@[simp] theorem setA_host (t : State) (r : Byte) : (t.setA r).host = t.host := rfl
@[simp] theorem setA_past (t : State) (r : Byte) : (t.setA r).past = t.past := rfl
@[simp] theorem setA_mem (t : State) (r : Byte) : (t.setA r).mem = t.mem := rfl
@[simp] theorem setA_draws (t : State) (r : Byte) : (t.setA r).draws = t.draws := rfl

@[simp] theorem setX_a (t : State) (r : Byte) : (t.setX r).a = t.a := rfl
@[simp] theorem setX_x (t : State) (r : Byte) : (t.setX r).x = r := rfl
@[simp] theorem setX_y (t : State) (r : Byte) : (t.setX r).y = t.y := rfl
@[simp] theorem setX_s (t : State) (r : Byte) : (t.setX r).s = t.s := rfl
@[simp] theorem setX_pc (t : State) (r : Byte) : (t.setX r).pc = t.pc := rfl
@[simp] theorem setX_n (t : State) (r : Byte) : (t.setX r).n = t.n := rfl
@[simp] theorem setX_v (t : State) (r : Byte) : (t.setX r).v = t.v := rfl
@[simp] theorem setX_d (t : State) (r : Byte) : (t.setX r).d = t.d := rfl
@[simp] theorem setX_i (t : State) (r : Byte) : (t.setX r).i = t.i := rfl
@[simp] theorem setX_z (t : State) (r : Byte) : (t.setX r).z = t.z := rfl
@[simp] theorem setX_c (t : State) (r : Byte) : (t.setX r).c = t.c := rfl
@[simp] theorem setX_nmiPending (t : State) (r : Byte) : (t.setX r).nmiPending = t.nmiPending := rfl
@[simp] theorem setX_irqLine (t : State) (r : Byte) : (t.setX r).irqLine = t.irqLine := rfl
@[simp] theorem setX_undocNop (t : State) (r : Byte) : (t.setX r).undocNop = t.undocNop := rfl
@[simp] theorem setX_rs (t : State) (r : Byte) : (t.setX r).rs = t.rs := rfl
@[simp] theorem setX_cyc (t : State) (r : Byte) : (t.setX r).cyc = t.cyc := rfl
@[simp] theorem setX_cyclesElapsed (t : State) (r : Byte) : (t.setX r).cyclesElapsed = t.cyclesElapsed := rfl
@[simp] theorem setX_port (t : State) (r : Byte) : (t.setX r).port = t.port := rfl
@[simp] theorem setX_host (t : State) (r : Byte) : (t.setX r).host = t.host := rfl
@[simp] theorem setX_past (t : State) (r : Byte) : (t.setX r).past = t.past := rfl
@[simp] theorem setX_mem (t : State) (r : Byte) : (t.setX r).mem = t.mem := rfl
@[simp] theorem setX_draws (t : State) (r : Byte) : (t.setX r).draws = t.draws := rfl

@[simp] theorem setY_a (t : State) (r : Byte) : (t.setY r).a = t.a := rfl
@[simp] theorem setY_x (t : State) (r : Byte) : (t.setY r).x = t.x := rfl
@[simp] theorem setY_y (t : State) (r : Byte) : (t.setY r).y = r := rfl
@[simp] theorem setY_s (t : State) (r : Byte) : (t.setY r).s = t.s := rfl
@[simp] theorem setY_pc (t : State) (r : Byte) : (t.setY r).pc = t.pc := rfl
@[simp] theorem setY_n (t : State) (r : Byte) : (t.setY r).n = t.n := rfl
@[simp] theorem setY_v (t : State) (r : Byte) : (t.setY r).v = t.v := rfl
@[simp] theorem setY_d (t : State) (r : Byte) : (t.setY r).d = t.d := rfl
@[simp] theorem setY_i (t : State) (r : Byte) : (t.setY r).i = t.i := rfl
@[simp] theorem setY_z (t : State) (r : Byte) : (t.setY r).z = t.z := rfl
@[simp] theorem setY_c (t : State) (r : Byte) : (t.setY r).c = t.c := rfl
@[simp] theorem setY_nmiPending (t : State) (r : Byte) : (t.setY r).nmiPending = t.nmiPending := rfl
@[simp] theorem setY_irqLine (t : State) (r : Byte) : (t.setY r).irqLine = t.irqLine := rfl
@[simp] theorem setY_undocNop (t : State) (r : Byte) : (t.setY r).undocNop = t.undocNop := rfl
@[simp] theorem setY_rs (t : State) (r : Byte) : (t.setY r).rs = t.rs := rfl
@[simp] theorem setY_cyc (t : State) (r : Byte) : (t.setY r).cyc = t.cyc := rfl
@[simp] theorem setY_cyclesElapsed (t : State) (r : Byte) : (t.setY r).cyclesElapsed = t.cyclesElapsed := rfl
@[simp] theorem setY_port (t : State) (r : Byte) : (t.setY r).port = t.port := rfl
@[simp] theorem setY_host (t : State) (r : Byte) : (t.setY r).host = t.host := rfl
@[simp] theorem setY_past (t : State) (r : Byte) : (t.setY r).past = t.past := rfl
@[simp] theorem setY_mem (t : State) (r : Byte) : (t.setY r).mem = t.mem := rfl
@[simp] theorem setY_draws (t : State) (r : Byte) : (t.setY r).draws = t.draws := rfl

@[simp] theorem setS_a (t : State) (r : Byte) : (t.setS r).a = t.a := rfl
@[simp] theorem setS_x (t : State) (r : Byte) : (t.setS r).x = t.x := rfl
@[simp] theorem setS_y (t : State) (r : Byte) : (t.setS r).y = t.y := rfl
@[simp] theorem setS_s (t : State) (r : Byte) : (t.setS r).s = r := rfl
@[simp] theorem setS_pc (t : State) (r : Byte) : (t.setS r).pc = t.pc := rfl
@[simp] theorem setS_n (t : State) (r : Byte) : (t.setS r).n = t.n := rfl
@[simp] theorem setS_v (t : State) (r : Byte) : (t.setS r).v = t.v := rfl
@[simp] theorem setS_d (t : State) (r : Byte) : (t.setS r).d = t.d := rfl
@[simp] theorem setS_i (t : State) (r : Byte) : (t.setS r).i = t.i := rfl
@[simp] theorem setS_z (t : State) (r : Byte) : (t.setS r).z = t.z := rfl
@[simp] theorem setS_c (t : State) (r : Byte) : (t.setS r).c = t.c := rfl
@[simp] theorem setS_nmiPending (t : State) (r : Byte) : (t.setS r).nmiPending = t.nmiPending := rfl
@[simp] theorem setS_irqLine (t : State) (r : Byte) : (t.setS r).irqLine = t.irqLine := rfl
@[simp] theorem setS_undocNop (t : State) (r : Byte) : (t.setS r).undocNop = t.undocNop := rfl
@[simp] theorem setS_rs (t : State) (r : Byte) : (t.setS r).rs = t.rs := rfl
@[simp] theorem setS_cyc (t : State) (r : Byte) : (t.setS r).cyc = t.cyc := rfl
@[simp] theorem setS_cyclesElapsed (t : State) (r : Byte) : (t.setS r).cyclesElapsed = t.cyclesElapsed := rfl
@[simp] theorem setS_port (t : State) (r : Byte) : (t.setS r).port = t.port := rfl
@[simp] theorem setS_host (t : State) (r : Byte) : (t.setS r).host = t.host := rfl
@[simp] theorem setS_past (t : State) (r : Byte) : (t.setS r).past = t.past := rfl
@[simp] theorem setS_mem (t : State) (r : Byte) : (t.setS r).mem = t.mem := rfl
@[simp] theorem setS_draws (t : State) (r : Byte) : (t.setS r).draws = t.draws := rfl

@[simp] theorem setPc_a (t : State) (w : Addr) : (t.setPc w).a = t.a := rfl
@[simp] theorem setPc_x (t : State) (w : Addr) : (t.setPc w).x = t.x := rfl
@[simp] theorem setPc_y (t : State) (w : Addr) : (t.setPc w).y = t.y := rfl
@[simp] theorem setPc_s (t : State) (w : Addr) : (t.setPc w).s = t.s := rfl
@[simp] theorem setPc_pc (t : State) (w : Addr) : (t.setPc w).pc = w := rfl
@[simp] theorem setPc_n (t : State) (w : Addr) : (t.setPc w).n = t.n := rfl
@[simp] theorem setPc_v (t : State) (w : Addr) : (t.setPc w).v = t.v := rfl
@[simp] theorem setPc_d (t : State) (w : Addr) : (t.setPc w).d = t.d := rfl
@[simp] theorem setPc_i (t : State) (w : Addr) : (t.setPc w).i = t.i := rfl
@[simp] theorem setPc_z (t : State) (w : Addr) : (t.setPc w).z = t.z := rfl
@[simp] theorem setPc_c (t : State) (w : Addr) : (t.setPc w).c = t.c := rfl
@[simp] theorem setPc_nmiPending (t : State) (w : Addr) : (t.setPc w).nmiPending = t.nmiPending := rfl
@[simp] theorem setPc_irqLine (t : State) (w : Addr) : (t.setPc w).irqLine = t.irqLine := rfl
@[simp] theorem setPc_undocNop (t : State) (w : Addr) : (t.setPc w).undocNop = t.undocNop := rfl
@[simp] theorem setPc_rs (t : State) (w : Addr) : (t.setPc w).rs = t.rs := rfl
@[simp] theorem setPc_cyc (t : State) (w : Addr) : (t.setPc w).cyc = t.cyc := rfl
@[simp] theorem setPc_cyclesElapsed (t : State) (w : Addr) : (t.setPc w).cyclesElapsed = t.cyclesElapsed := rfl
@[simp] theorem setPc_port (t : State) (w : Addr) : (t.setPc w).port = t.port := rfl
@[simp] theorem setPc_host (t : State) (w : Addr) : (t.setPc w).host = t.host := rfl
@[simp] theorem setPc_past (t : State) (w : Addr) : (t.setPc w).past = t.past := rfl
@[simp] theorem setPc_mem (t : State) (w : Addr) : (t.setPc w).mem = t.mem := rfl
@[simp] theorem setPc_draws (t : State) (w : Addr) : (t.setPc w).draws = t.draws := rfl

@[simp] theorem setV_a (t : State) (b : Bool) : (t.setV b).a = t.a := rfl
@[simp] theorem setV_x (t : State) (b : Bool) : (t.setV b).x = t.x := rfl
@[simp] theorem setV_y (t : State) (b : Bool) : (t.setV b).y = t.y := rfl
@[simp] theorem setV_s (t : State) (b : Bool) : (t.setV b).s = t.s := rfl
@[simp] theorem setV_pc (t : State) (b : Bool) : (t.setV b).pc = t.pc := rfl
@[simp] theorem setV_n (t : State) (b : Bool) : (t.setV b).n = t.n := rfl
@[simp] theorem setV_v (t : State) (b : Bool) : (t.setV b).v = b := rfl
@[simp] theorem setV_d (t : State) (b : Bool) : (t.setV b).d = t.d := rfl
@[simp] theorem setV_i (t : State) (b : Bool) : (t.setV b).i = t.i := rfl
@[simp] theorem setV_z (t : State) (b : Bool) : (t.setV b).z = t.z := rfl
@[simp] theorem setV_c (t : State) (b : Bool) : (t.setV b).c = t.c := rfl
@[simp] theorem setV_nmiPending (t : State) (b : Bool) : (t.setV b).nmiPending = t.nmiPending := rfl
@[simp] theorem setV_irqLine (t : State) (b : Bool) : (t.setV b).irqLine = t.irqLine := rfl
@[simp] theorem setV_undocNop (t : State) (b : Bool) : (t.setV b).undocNop = t.undocNop := rfl
@[simp] theorem setV_rs (t : State) (b : Bool) : (t.setV b).rs = t.rs := rfl
@[simp] theorem setV_cyc (t : State) (b : Bool) : (t.setV b).cyc = t.cyc := rfl
@[simp] theorem setV_cyclesElapsed (t : State) (b : Bool) : (t.setV b).cyclesElapsed = t.cyclesElapsed := rfl
@[simp] theorem setV_port (t : State) (b : Bool) : (t.setV b).port = t.port := rfl
@[simp] theorem setV_host (t : State) (b : Bool) : (t.setV b).host = t.host := rfl
@[simp] theorem setV_past (t : State) (b : Bool) : (t.setV b).past = t.past := rfl
@[simp] theorem setV_mem (t : State) (b : Bool) : (t.setV b).mem = t.mem := rfl
@[simp] theorem setV_draws (t : State) (b : Bool) : (t.setV b).draws = t.draws := rfl

@[simp] theorem setD_a (t : State) (b : Bool) : (t.setD b).a = t.a := rfl
@[simp] theorem setD_x (t : State) (b : Bool) : (t.setD b).x = t.x := rfl
@[simp] theorem setD_y (t : State) (b : Bool) : (t.setD b).y = t.y := rfl
@[simp] theorem setD_s (t : State) (b : Bool) : (t.setD b).s = t.s := rfl
@[simp] theorem setD_pc (t : State) (b : Bool) : (t.setD b).pc = t.pc := rfl
@[simp] theorem setD_n (t : State) (b : Bool) : (t.setD b).n = t.n := rfl
@[simp] theorem setD_v (t : State) (b : Bool) : (t.setD b).v = t.v := rfl
@[simp] theorem setD_d (t : State) (b : Bool) : (t.setD b).d = b := rfl
@[simp] theorem setD_i (t : State) (b : Bool) : (t.setD b).i = t.i := rfl
@[simp] theorem setD_z (t : State) (b : Bool) : (t.setD b).z = t.z := rfl
@[simp] theorem setD_c (t : State) (b : Bool) : (t.setD b).c = t.c := rfl
@[simp] theorem setD_nmiPending (t : State) (b : Bool) : (t.setD b).nmiPending = t.nmiPending := rfl
@[simp] theorem setD_irqLine (t : State) (b : Bool) : (t.setD b).irqLine = t.irqLine := rfl
@[simp] theorem setD_undocNop (t : State) (b : Bool) : (t.setD b).undocNop = t.undocNop := rfl
@[simp] theorem setD_rs (t : State) (b : Bool) : (t.setD b).rs = t.rs := rfl
@[simp] theorem setD_cyc (t : State) (b : Bool) : (t.setD b).cyc = t.cyc := rfl
@[simp] theorem setD_cyclesElapsed (t : State) (b : Bool) : (t.setD b).cyclesElapsed = t.cyclesElapsed := rfl
@[simp] theorem setD_port (t : State) (b : Bool) : (t.setD b).port = t.port := rfl
@[simp] theorem setD_host (t : State) (b : Bool) : (t.setD b).host = t.host := rfl
@[simp] theorem setD_past (t : State) (b : Bool) : (t.setD b).past = t.past := rfl
@[simp] theorem setD_mem (t : State) (b : Bool) : (t.setD b).mem = t.mem := rfl
@[simp] theorem setD_draws (t : State) (b : Bool) : (t.setD b).draws = t.draws := rfl

@[simp] theorem setI_a (t : State) (b : Bool) : (t.setI b).a = t.a := rfl
@[simp] theorem setI_x (t : State) (b : Bool) : (t.setI b).x = t.x := rfl
@[simp] theorem setI_y (t : State) (b : Bool) : (t.setI b).y = t.y := rfl
@[simp] theorem setI_s (t : State) (b : Bool) : (t.setI b).s = t.s := rfl
@[simp] theorem setI_pc (t : State) (b : Bool) : (t.setI b).pc = t.pc := rfl
@[simp] theorem setI_n (t : State) (b : Bool) : (t.setI b).n = t.n := rfl
@[simp] theorem setI_v (t : State) (b : Bool) : (t.setI b).v = t.v := rfl
@[simp] theorem setI_d (t : State) (b : Bool) : (t.setI b).d = t.d := rfl
@[simp] theorem setI_i (t : State) (b : Bool) : (t.setI b).i = b := rfl
@[simp] theorem setI_z (t : State) (b : Bool) : (t.setI b).z = t.z := rfl
@[simp] theorem setI_c (t : State) (b : Bool) : (t.setI b).c = t.c := rfl
@[simp] theorem setI_nmiPending (t : State) (b : Bool) : (t.setI b).nmiPending = t.nmiPending := rfl
@[simp] theorem setI_irqLine (t : State) (b : Bool) : (t.setI b).irqLine = t.irqLine := rfl
@[simp] theorem setI_undocNop (t : State) (b : Bool) : (t.setI b).undocNop = t.undocNop := rfl
@[simp] theorem setI_rs (t : State) (b : Bool) : (t.setI b).rs = t.rs := rfl
@[simp] theorem setI_cyc (t : State) (b : Bool) : (t.setI b).cyc = t.cyc := rfl
@[simp] theorem setI_cyclesElapsed (t : State) (b : Bool) : (t.setI b).cyclesElapsed = t.cyclesElapsed := rfl
@[simp] theorem setI_port (t : State) (b : Bool) : (t.setI b).port = t.port := rfl
@[simp] theorem setI_host (t : State) (b : Bool) : (t.setI b).host = t.host := rfl
@[simp] theorem setI_past (t : State) (b : Bool) : (t.setI b).past = t.past := rfl
@[simp] theorem setI_mem (t : State) (b : Bool) : (t.setI b).mem = t.mem := rfl
@[simp] theorem setI_draws (t : State) (b : Bool) : (t.setI b).draws = t.draws := rfl

@[simp] theorem setC_a (t : State) (b : Bool) : (t.setC b).a = t.a := rfl
@[simp] theorem setC_x (t : State) (b : Bool) : (t.setC b).x = t.x := rfl
@[simp] theorem setC_y (t : State) (b : Bool) : (t.setC b).y = t.y := rfl
@[simp] theorem setC_s (t : State) (b : Bool) : (t.setC b).s = t.s := rfl
@[simp] theorem setC_pc (t : State) (b : Bool) : (t.setC b).pc = t.pc := rfl
@[simp] theorem setC_n (t : State) (b : Bool) : (t.setC b).n = t.n := rfl
@[simp] theorem setC_v (t : State) (b : Bool) : (t.setC b).v = t.v := rfl
@[simp] theorem setC_d (t : State) (b : Bool) : (t.setC b).d = t.d := rfl
@[simp] theorem setC_i (t : State) (b : Bool) : (t.setC b).i = t.i := rfl
@[simp] theorem setC_z (t : State) (b : Bool) : (t.setC b).z = t.z := rfl
@[simp] theorem setC_c (t : State) (b : Bool) : (t.setC b).c = b := rfl
@[simp] theorem setC_nmiPending (t : State) (b : Bool) : (t.setC b).nmiPending = t.nmiPending := rfl
@[simp] theorem setC_irqLine (t : State) (b : Bool) : (t.setC b).irqLine = t.irqLine := rfl
@[simp] theorem setC_undocNop (t : State) (b : Bool) : (t.setC b).undocNop = t.undocNop := rfl
@[simp] theorem setC_rs (t : State) (b : Bool) : (t.setC b).rs = t.rs := rfl
@[simp] theorem setC_cyc (t : State) (b : Bool) : (t.setC b).cyc = t.cyc := rfl
@[simp] theorem setC_cyclesElapsed (t : State) (b : Bool) : (t.setC b).cyclesElapsed = t.cyclesElapsed := rfl
@[simp] theorem setC_port (t : State) (b : Bool) : (t.setC b).port = t.port := rfl
@[simp] theorem setC_host (t : State) (b : Bool) : (t.setC b).host = t.host := rfl
@[simp] theorem setC_past (t : State) (b : Bool) : (t.setC b).past = t.past := rfl
@[simp] theorem setC_mem (t : State) (b : Bool) : (t.setC b).mem = t.mem := rfl
@[simp] theorem setC_draws (t : State) (b : Bool) : (t.setC b).draws = t.draws := rfl

@[simp] theorem setNZ_a (t : State) (r : Byte) : (t.setNZ r).a = t.a := rfl
@[simp] theorem setNZ_x (t : State) (r : Byte) : (t.setNZ r).x = t.x := rfl
@[simp] theorem setNZ_y (t : State) (r : Byte) : (t.setNZ r).y = t.y := rfl
@[simp] theorem setNZ_s (t : State) (r : Byte) : (t.setNZ r).s = t.s := rfl
@[simp] theorem setNZ_pc (t : State) (r : Byte) : (t.setNZ r).pc = t.pc := rfl
@[simp] theorem setNZ_n (t : State) (r : Byte) : (t.setNZ r).n = r.getLsbD 7 := rfl
@[simp] theorem setNZ_v (t : State) (r : Byte) : (t.setNZ r).v = t.v := rfl
@[simp] theorem setNZ_d (t : State) (r : Byte) : (t.setNZ r).d = t.d := rfl
@[simp] theorem setNZ_i (t : State) (r : Byte) : (t.setNZ r).i = t.i := rfl
@[simp] theorem setNZ_z (t : State) (r : Byte) : (t.setNZ r).z = (r == 0) := rfl
@[simp] theorem setNZ_c (t : State) (r : Byte) : (t.setNZ r).c = t.c := rfl
@[simp] theorem setNZ_nmiPending (t : State) (r : Byte) : (t.setNZ r).nmiPending = t.nmiPending := rfl
@[simp] theorem setNZ_irqLine (t : State) (r : Byte) : (t.setNZ r).irqLine = t.irqLine := rfl
@[simp] theorem setNZ_undocNop (t : State) (r : Byte) : (t.setNZ r).undocNop = t.undocNop := rfl
@[simp] theorem setNZ_rs (t : State) (r : Byte) : (t.setNZ r).rs = t.rs := rfl
@[simp] theorem setNZ_cyc (t : State) (r : Byte) : (t.setNZ r).cyc = t.cyc := rfl
@[simp] theorem setNZ_cyclesElapsed (t : State) (r : Byte) : (t.setNZ r).cyclesElapsed = t.cyclesElapsed := rfl
@[simp] theorem setNZ_port (t : State) (r : Byte) : (t.setNZ r).port = t.port := rfl
@[simp] theorem setNZ_host (t : State) (r : Byte) : (t.setNZ r).host = t.host := rfl
@[simp] theorem setNZ_past (t : State) (r : Byte) : (t.setNZ r).past = t.past := rfl
@[simp] theorem setNZ_mem (t : State) (r : Byte) : (t.setNZ r).mem = t.mem := rfl
@[simp] theorem setNZ_draws (t : State) (r : Byte) : (t.setNZ r).draws = t.draws := rfl

@[simp] theorem unpack_a (t : State) (p : Byte) : (t.unpack p).a = t.a := rfl
@[simp] theorem unpack_x (t : State) (p : Byte) : (t.unpack p).x = t.x := rfl
@[simp] theorem unpack_y (t : State) (p : Byte) : (t.unpack p).y = t.y := rfl
@[simp] theorem unpack_s (t : State) (p : Byte) : (t.unpack p).s = t.s := rfl
@[simp] theorem unpack_pc (t : State) (p : Byte) : (t.unpack p).pc = t.pc := rfl
@[simp] theorem unpack_n (t : State) (p : Byte) : (t.unpack p).n = p.getLsbD 7 := rfl
@[simp] theorem unpack_v (t : State) (p : Byte) : (t.unpack p).v = p.getLsbD 6 := rfl
@[simp] theorem unpack_d (t : State) (p : Byte) : (t.unpack p).d = p.getLsbD 3 := rfl
@[simp] theorem unpack_i (t : State) (p : Byte) : (t.unpack p).i = p.getLsbD 2 := rfl
@[simp] theorem unpack_z (t : State) (p : Byte) : (t.unpack p).z = p.getLsbD 1 := rfl
@[simp] theorem unpack_c (t : State) (p : Byte) : (t.unpack p).c = p.getLsbD 0 := rfl
@[simp] theorem unpack_nmiPending (t : State) (p : Byte) : (t.unpack p).nmiPending = t.nmiPending := rfl
@[simp] theorem unpack_irqLine (t : State) (p : Byte) : (t.unpack p).irqLine = t.irqLine := rfl
@[simp] theorem unpack_undocNop (t : State) (p : Byte) : (t.unpack p).undocNop = t.undocNop := rfl
@[simp] theorem unpack_rs (t : State) (p : Byte) : (t.unpack p).rs = t.rs := rfl
@[simp] theorem unpack_cyc (t : State) (p : Byte) : (t.unpack p).cyc = t.cyc := rfl
@[simp] theorem unpack_cyclesElapsed (t : State) (p : Byte) : (t.unpack p).cyclesElapsed = t.cyclesElapsed := rfl
@[simp] theorem unpack_port (t : State) (p : Byte) : (t.unpack p).port = t.port := rfl
@[simp] theorem unpack_host (t : State) (p : Byte) : (t.unpack p).host = t.host := rfl
@[simp] theorem unpack_past (t : State) (p : Byte) : (t.unpack p).past = t.past := rfl
@[simp] theorem unpack_mem (t : State) (p : Byte) : (t.unpack p).mem = t.mem := rfl
@[simp] theorem unpack_draws (t : State) (p : Byte) : (t.unpack p).draws = t.draws := rfl

@[simp] theorem compare_a (t : State) (r : Byte) (m : Byte) : (t.compare r m).a = t.a := rfl
@[simp] theorem compare_x (t : State) (r : Byte) (m : Byte) : (t.compare r m).x = t.x := rfl
@[simp] theorem compare_y (t : State) (r : Byte) (m : Byte) : (t.compare r m).y = t.y := rfl
@[simp] theorem compare_s (t : State) (r : Byte) (m : Byte) : (t.compare r m).s = t.s := rfl
@[simp] theorem compare_pc (t : State) (r : Byte) (m : Byte) : (t.compare r m).pc = t.pc := rfl
@[simp] theorem compare_n (t : State) (r : Byte) (m : Byte) : (t.compare r m).n = (r - m).getLsbD 7 := rfl
@[simp] theorem compare_v (t : State) (r : Byte) (m : Byte) : (t.compare r m).v = t.v := rfl
@[simp] theorem compare_d (t : State) (r : Byte) (m : Byte) : (t.compare r m).d = t.d := rfl
@[simp] theorem compare_i (t : State) (r : Byte) (m : Byte) : (t.compare r m).i = t.i := rfl
@[simp] theorem compare_z (t : State) (r : Byte) (m : Byte) : (t.compare r m).z = (r - m == 0) := rfl
@[simp] theorem compare_c (t : State) (r : Byte) (m : Byte) : (t.compare r m).c = decide (r.toNat ≥ m.toNat) := rfl
@[simp] theorem compare_nmiPending (t : State) (r : Byte) (m : Byte) : (t.compare r m).nmiPending = t.nmiPending := rfl
@[simp] theorem compare_irqLine (t : State) (r : Byte) (m : Byte) : (t.compare r m).irqLine = t.irqLine := rfl
@[simp] theorem compare_undocNop (t : State) (r : Byte) (m : Byte) : (t.compare r m).undocNop = t.undocNop := rfl
@[simp] theorem compare_rs (t : State) (r : Byte) (m : Byte) : (t.compare r m).rs = t.rs := rfl
@[simp] theorem compare_cyc (t : State) (r : Byte) (m : Byte) : (t.compare r m).cyc = t.cyc := rfl
@[simp] theorem compare_cyclesElapsed (t : State) (r : Byte) (m : Byte) : (t.compare r m).cyclesElapsed = t.cyclesElapsed := rfl
@[simp] theorem compare_port (t : State) (r : Byte) (m : Byte) : (t.compare r m).port = t.port := rfl
@[simp] theorem compare_host (t : State) (r : Byte) (m : Byte) : (t.compare r m).host = t.host := rfl
@[simp] theorem compare_past (t : State) (r : Byte) (m : Byte) : (t.compare r m).past = t.past := rfl
@[simp] theorem compare_mem (t : State) (r : Byte) (m : Byte) : (t.compare r m).mem = t.mem := rfl
@[simp] theorem compare_draws (t : State) (r : Byte) (m : Byte) : (t.compare r m).draws = t.draws := rfl

@[simp] theorem afterRead_a (t : State) (w : Addr) : (t.afterRead w).a = t.a := rfl
@[simp] theorem afterRead_x (t : State) (w : Addr) : (t.afterRead w).x = t.x := rfl
@[simp] theorem afterRead_y (t : State) (w : Addr) : (t.afterRead w).y = t.y := rfl
@[simp] theorem afterRead_s (t : State) (w : Addr) : (t.afterRead w).s = t.s := rfl
@[simp] theorem afterRead_pc (t : State) (w : Addr) : (t.afterRead w).pc = t.pc := rfl
@[simp] theorem afterRead_n (t : State) (w : Addr) : (t.afterRead w).n = t.n := rfl
@[simp] theorem afterRead_v (t : State) (w : Addr) : (t.afterRead w).v = t.v := rfl
@[simp] theorem afterRead_d (t : State) (w : Addr) : (t.afterRead w).d = t.d := rfl
@[simp] theorem afterRead_i (t : State) (w : Addr) : (t.afterRead w).i = t.i := rfl
@[simp] theorem afterRead_z (t : State) (w : Addr) : (t.afterRead w).z = t.z := rfl
@[simp] theorem afterRead_c (t : State) (w : Addr) : (t.afterRead w).c = t.c := rfl
@[simp] theorem afterRead_nmiPending (t : State) (w : Addr) : (t.afterRead w).nmiPending = t.nmiPending := rfl
@[simp] theorem afterRead_irqLine (t : State) (w : Addr) : (t.afterRead w).irqLine = t.irqLine := rfl
@[simp] theorem afterRead_undocNop (t : State) (w : Addr) : (t.afterRead w).undocNop = t.undocNop := rfl
@[simp] theorem afterRead_rs (t : State) (w : Addr) : (t.afterRead w).rs = t.rs := rfl
@[simp] theorem afterRead_cyc (t : State) (w : Addr) : (t.afterRead w).cyc = t.cyc := rfl
@[simp] theorem afterRead_cyclesElapsed (t : State) (w : Addr) : (t.afterRead w).cyclesElapsed = t.cyclesElapsed := rfl
@[simp] theorem afterRead_port (t : State) (w : Addr) : (t.afterRead w).port = t.port ++ [⟨.read, w, t.answer w⟩] := rfl
@[simp] theorem afterRead_host (t : State) (w : Addr) : (t.afterRead w).host = t.host := rfl
@[simp] theorem afterRead_past (t : State) (w : Addr) : (t.afterRead w).past = t.past := rfl
@[simp] theorem afterRead_mem (t : State) (w : Addr) : (t.afterRead w).mem = t.mem := rfl
@[simp] theorem afterRead_draws (t : State) (w : Addr) : (t.afterRead w).draws = t.draws := rfl

@[simp] theorem note_a (t : State) (q : Access) : (t.note q).a = t.a := rfl
@[simp] theorem note_x (t : State) (q : Access) : (t.note q).x = t.x := rfl
@[simp] theorem note_y (t : State) (q : Access) : (t.note q).y = t.y := rfl
@[simp] theorem note_s (t : State) (q : Access) : (t.note q).s = t.s := rfl
@[simp] theorem note_pc (t : State) (q : Access) : (t.note q).pc = t.pc := rfl
@[simp] theorem note_n (t : State) (q : Access) : (t.note q).n = t.n := rfl
@[simp] theorem note_v (t : State) (q : Access) : (t.note q).v = t.v := rfl
@[simp] theorem note_d (t : State) (q : Access) : (t.note q).d = t.d := rfl
@[simp] theorem note_i (t : State) (q : Access) : (t.note q).i = t.i := rfl
@[simp] theorem note_z (t : State) (q : Access) : (t.note q).z = t.z := rfl
@[simp] theorem note_c (t : State) (q : Access) : (t.note q).c = t.c := rfl
@[simp] theorem note_nmiPending (t : State) (q : Access) : (t.note q).nmiPending = t.nmiPending := rfl
@[simp] theorem note_irqLine (t : State) (q : Access) : (t.note q).irqLine = t.irqLine := rfl
@[simp] theorem note_undocNop (t : State) (q : Access) : (t.note q).undocNop = t.undocNop := rfl
@[simp] theorem note_rs (t : State) (q : Access) : (t.note q).rs = t.rs := rfl
@[simp] theorem note_cyc (t : State) (q : Access) : (t.note q).cyc = t.cyc := rfl
@[simp] theorem note_cyclesElapsed (t : State) (q : Access) : (t.note q).cyclesElapsed = t.cyclesElapsed := rfl
@[simp] theorem note_port (t : State) (q : Access) : (t.note q).port = t.port ++ [q] := rfl
@[simp] theorem note_host (t : State) (q : Access) : (t.note q).host = t.host := rfl
@[simp] theorem note_past (t : State) (q : Access) : (t.note q).past = t.past := rfl
@[simp] theorem note_mem (t : State) (q : Access) : (t.note q).mem = t.mem := rfl
@[simp] theorem note_draws (t : State) (q : Access) : (t.note q).draws = t.draws := rfl

@[simp] theorem memWrite_a (t : State) (w : Addr) (r : Byte) : (t.memWrite w r).a = t.a := rfl
@[simp] theorem memWrite_x (t : State) (w : Addr) (r : Byte) : (t.memWrite w r).x = t.x := rfl
@[simp] theorem memWrite_y (t : State) (w : Addr) (r : Byte) : (t.memWrite w r).y = t.y := rfl
@[simp] theorem memWrite_s (t : State) (w : Addr) (r : Byte) : (t.memWrite w r).s = t.s := rfl
@[simp] theorem memWrite_pc (t : State) (w : Addr) (r : Byte) : (t.memWrite w r).pc = t.pc := rfl
@[simp] theorem memWrite_n (t : State) (w : Addr) (r : Byte) : (t.memWrite w r).n = t.n := rfl
@[simp] theorem memWrite_v (t : State) (w : Addr) (r : Byte) : (t.memWrite w r).v = t.v := rfl
@[simp] theorem memWrite_d (t : State) (w : Addr) (r : Byte) : (t.memWrite w r).d = t.d := rfl
@[simp] theorem memWrite_i (t : State) (w : Addr) (r : Byte) : (t.memWrite w r).i = t.i := rfl
@[simp] theorem memWrite_z (t : State) (w : Addr) (r : Byte) : (t.memWrite w r).z = t.z := rfl
@[simp] theorem memWrite_c (t : State) (w : Addr) (r : Byte) : (t.memWrite w r).c = t.c := rfl
@[simp] theorem memWrite_nmiPending (t : State) (w : Addr) (r : Byte) : (t.memWrite w r).nmiPending = t.nmiPending := rfl
@[simp] theorem memWrite_irqLine (t : State) (w : Addr) (r : Byte) : (t.memWrite w r).irqLine = t.irqLine := rfl
@[simp] theorem memWrite_undocNop (t : State) (w : Addr) (r : Byte) : (t.memWrite w r).undocNop = t.undocNop := rfl
@[simp] theorem memWrite_rs (t : State) (w : Addr) (r : Byte) : (t.memWrite w r).rs = t.rs := rfl
@[simp] theorem memWrite_cyc (t : State) (w : Addr) (r : Byte) : (t.memWrite w r).cyc = t.cyc := rfl
@[simp] theorem memWrite_cyclesElapsed (t : State) (w : Addr) (r : Byte) : (t.memWrite w r).cyclesElapsed = t.cyclesElapsed := rfl
@[simp] theorem memWrite_port (t : State) (w : Addr) (r : Byte) : (t.memWrite w r).port = t.port ++ [⟨.write, w, r⟩] := rfl
@[simp] theorem memWrite_host (t : State) (w : Addr) (r : Byte) : (t.memWrite w r).host = t.host := rfl
@[simp] theorem memWrite_past (t : State) (w : Addr) (r : Byte) : (t.memWrite w r).past = t.past := rfl
@[simp] theorem memWrite_mem (t : State) (w : Addr) (r : Byte) : (t.memWrite w r).mem = t.mem.write w.toNat r := rfl
@[simp] theorem memWrite_draws (t : State) (w : Addr) (r : Byte) : (t.memWrite w r).draws = t.draws := rfl

@[simp] theorem push_a (t : State) (r : Byte) : (t.push r).a = t.a := rfl
@[simp] theorem push_x (t : State) (r : Byte) : (t.push r).x = t.x := rfl
@[simp] theorem push_y (t : State) (r : Byte) : (t.push r).y = t.y := rfl
@[simp] theorem push_s (t : State) (r : Byte) : (t.push r).s = t.s - 1 := rfl
@[simp] theorem push_pc (t : State) (r : Byte) : (t.push r).pc = t.pc := rfl
@[simp] theorem push_n (t : State) (r : Byte) : (t.push r).n = t.n := rfl
@[simp] theorem push_v (t : State) (r : Byte) : (t.push r).v = t.v := rfl
@[simp] theorem push_d (t : State) (r : Byte) : (t.push r).d = t.d := rfl
@[simp] theorem push_i (t : State) (r : Byte) : (t.push r).i = t.i := rfl
@[simp] theorem push_z (t : State) (r : Byte) : (t.push r).z = t.z := rfl
@[simp] theorem push_c (t : State) (r : Byte) : (t.push r).c = t.c := rfl
@[simp] theorem push_nmiPending (t : State) (r : Byte) : (t.push r).nmiPending = t.nmiPending := rfl
@[simp] theorem push_irqLine (t : State) (r : Byte) : (t.push r).irqLine = t.irqLine := rfl
@[simp] theorem push_undocNop (t : State) (r : Byte) : (t.push r).undocNop = t.undocNop := rfl
@[simp] theorem push_rs (t : State) (r : Byte) : (t.push r).rs = t.rs := rfl
@[simp] theorem push_cyc (t : State) (r : Byte) : (t.push r).cyc = t.cyc := rfl
@[simp] theorem push_cyclesElapsed (t : State) (r : Byte) : (t.push r).cyclesElapsed = t.cyclesElapsed := rfl
@[simp] theorem push_port (t : State) (r : Byte) : (t.push r).port = t.port ++ [⟨.write, stackAddr t.s, r⟩] := rfl
@[simp] theorem push_host (t : State) (r : Byte) : (t.push r).host = t.host := rfl
@[simp] theorem push_past (t : State) (r : Byte) : (t.push r).past = t.past := rfl
@[simp] theorem push_mem (t : State) (r : Byte) : (t.push r).mem = t.mem.write (stackAddr t.s).toNat r := rfl
@[simp] theorem push_draws (t : State) (r : Byte) : (t.push r).draws = t.draws := rfl

@[simp] theorem finish_a (t : State) (k : Nat) : (t.finish k).a = t.a := rfl
@[simp] theorem finish_x (t : State) (k : Nat) : (t.finish k).x = t.x := rfl
@[simp] theorem finish_y (t : State) (k : Nat) : (t.finish k).y = t.y := rfl
@[simp] theorem finish_s (t : State) (k : Nat) : (t.finish k).s = t.s := rfl
@[simp] theorem finish_pc (t : State) (k : Nat) : (t.finish k).pc = t.pc := rfl
@[simp] theorem finish_n (t : State) (k : Nat) : (t.finish k).n = t.n := rfl
@[simp] theorem finish_v (t : State) (k : Nat) : (t.finish k).v = t.v := rfl
@[simp] theorem finish_d (t : State) (k : Nat) : (t.finish k).d = t.d := rfl
@[simp] theorem finish_i (t : State) (k : Nat) : (t.finish k).i = t.i := rfl
@[simp] theorem finish_z (t : State) (k : Nat) : (t.finish k).z = t.z := rfl
@[simp] theorem finish_c (t : State) (k : Nat) : (t.finish k).c = t.c := rfl
@[simp] theorem finish_nmiPending (t : State) (k : Nat) : (t.finish k).nmiPending = t.nmiPending := rfl
@[simp] theorem finish_irqLine (t : State) (k : Nat) : (t.finish k).irqLine = t.irqLine := rfl
@[simp] theorem finish_undocNop (t : State) (k : Nat) : (t.finish k).undocNop = t.undocNop := rfl
@[simp] theorem finish_rs (t : State) (k : Nat) : (t.finish k).rs = t.rs := rfl
@[simp] theorem finish_cyc (t : State) (k : Nat) : (t.finish k).cyc = t.cyc + k := rfl
@[simp] theorem finish_cyclesElapsed (t : State) (k : Nat) : (t.finish k).cyclesElapsed = k := rfl
@[simp] theorem finish_port (t : State) (k : Nat) : (t.finish k).port = t.port := rfl
@[simp] theorem finish_host (t : State) (k : Nat) : (t.finish k).host = t.host := rfl
@[simp] theorem finish_past (t : State) (k : Nat) : (t.finish k).past = t.past := rfl
@[simp] theorem finish_mem (t : State) (k : Nat) : (t.finish k).mem = t.mem := rfl
@[simp] theorem finish_draws (t : State) (k : Nat) : (t.finish k).draws = t.draws := rfl

@[simp] theorem beginStep_a (t : State) : t.beginStep.a = t.a := rfl
@[simp] theorem beginStep_x (t : State) : t.beginStep.x = t.x := rfl
@[simp] theorem beginStep_y (t : State) : t.beginStep.y = t.y := rfl
@[simp] theorem beginStep_s (t : State) : t.beginStep.s = t.s := rfl
@[simp] theorem beginStep_pc (t : State) : t.beginStep.pc = t.pc := rfl
@[simp] theorem beginStep_n (t : State) : t.beginStep.n = t.n := rfl
@[simp] theorem beginStep_v (t : State) : t.beginStep.v = t.v := rfl
@[simp] theorem beginStep_d (t : State) : t.beginStep.d = t.d := rfl
@[simp] theorem beginStep_i (t : State) : t.beginStep.i = t.i := rfl
@[simp] theorem beginStep_z (t : State) : t.beginStep.z = t.z := rfl
@[simp] theorem beginStep_c (t : State) : t.beginStep.c = t.c := rfl
@[simp] theorem beginStep_nmiPending (t : State) : t.beginStep.nmiPending = t.nmiPending := rfl
@[simp] theorem beginStep_irqLine (t : State) : t.beginStep.irqLine = t.irqLine := rfl
@[simp] theorem beginStep_undocNop (t : State) : t.beginStep.undocNop = t.undocNop := rfl
@[simp] theorem beginStep_rs (t : State) : t.beginStep.rs = t.rs := rfl
@[simp] theorem beginStep_cyc (t : State) : t.beginStep.cyc = t.cyc := rfl
@[simp] theorem beginStep_cyclesElapsed (t : State) : t.beginStep.cyclesElapsed = t.cyclesElapsed := rfl
@[simp] theorem beginStep_port (t : State) : t.beginStep.port = [] := rfl
@[simp] theorem beginStep_host (t : State) : t.beginStep.host = t.host := rfl
@[simp] theorem beginStep_past (t : State) : t.beginStep.past = t.past ++ t.port := rfl
@[simp] theorem beginStep_mem (t : State) : t.beginStep.mem = t.mem := rfl
@[simp] theorem beginStep_draws (t : State) : t.beginStep.draws = t.draws := rfl

@[simp] theorem readyToFetch_a (t : State) : t.readyToFetch.a = t.a := rfl
@[simp] theorem readyToFetch_x (t : State) : t.readyToFetch.x = t.x := rfl
@[simp] theorem readyToFetch_y (t : State) : t.readyToFetch.y = t.y := rfl
@[simp] theorem readyToFetch_s (t : State) : t.readyToFetch.s = t.s := rfl
@[simp] theorem readyToFetch_pc (t : State) : t.readyToFetch.pc = t.pc := rfl
@[simp] theorem readyToFetch_n (t : State) : t.readyToFetch.n = t.n := rfl
@[simp] theorem readyToFetch_v (t : State) : t.readyToFetch.v = t.v := rfl
@[simp] theorem readyToFetch_d (t : State) : t.readyToFetch.d = t.d := rfl
@[simp] theorem readyToFetch_i (t : State) : t.readyToFetch.i = t.i := rfl
@[simp] theorem readyToFetch_z (t : State) : t.readyToFetch.z = t.z := rfl
@[simp] theorem readyToFetch_c (t : State) : t.readyToFetch.c = t.c := rfl
@[simp] theorem readyToFetch_nmiPending (t : State) : t.readyToFetch.nmiPending = false := rfl
@[simp] theorem readyToFetch_irqLine (t : State) : t.readyToFetch.irqLine = false := rfl
@[simp] theorem readyToFetch_undocNop (t : State) : t.readyToFetch.undocNop = t.undocNop := rfl
@[simp] theorem readyToFetch_rs (t : State) : t.readyToFetch.rs = .running := rfl
@[simp] theorem readyToFetch_cyc (t : State) : t.readyToFetch.cyc = t.cyc := rfl
@[simp] theorem readyToFetch_cyclesElapsed (t : State) : t.readyToFetch.cyclesElapsed = t.cyclesElapsed := rfl
@[simp] theorem readyToFetch_port (t : State) : t.readyToFetch.port = t.port := rfl
@[simp] theorem readyToFetch_host (t : State) : t.readyToFetch.host = .plainRam := rfl
@[simp] theorem readyToFetch_past (t : State) : t.readyToFetch.past = t.past := rfl
@[simp] theorem readyToFetch_mem (t : State) : t.readyToFetch.mem = t.mem := rfl
@[simp] theorem readyToFetch_draws (t : State) : t.readyToFetch.draws = t.draws := rfl

end Sys2Proof.Machine
end

