-- ==== Sys2Proof/Laws/Ops.lean ====
section
/-! SUPPORT. What each shared operation does, said once as an equation on the record, and the few facts about stack
cells and 16-bit words that the equations leave open. -/

namespace Sys2Proof.Machine

/-! ### Words -/

/-- `{hi, lo}` is the number `hi*256 + lo` (R12). -/
theorem pairAddr_toNat (hi lo : Byte) : (pairAddr hi lo).toNat = hi.toNat * 256 + lo.toNat := by
  rw [pairAddr, BitVec.toNat_append, ← Nat.shiftLeft_add_eq_or_of_lt lo.isLt, Nat.shiftLeft_eq]

theorem hiByte_toNat (w : Addr) : (hiByte w).toNat = w.toNat / 256 := by
  have h := w.isLt
  simp only [hiByte, BitVec.extractLsb'_toNat, Nat.shiftRight_eq_div_pow]
  omega

theorem loByte_toNat (w : Addr) : (loByte w).toNat = w.toNat % 256 := by
  simp [loByte, BitVec.extractLsb'_toNat]

theorem pairAddr_hiByte_loByte (w : Addr) : pairAddr (hiByte w) (loByte w) = w := by
  apply BitVec.eq_of_toNat_eq
  rw [pairAddr_toNat, hiByte_toNat, loByte_toNat]
  omega

theorem hiByte_pairAddr (hi lo : Byte) : hiByte (pairAddr hi lo) = hi := by
  apply BitVec.eq_of_toNat_eq
  rw [hiByte_toNat, pairAddr_toNat]
  omega

theorem loByte_pairAddr (hi lo : Byte) : loByte (pairAddr hi lo) = lo := by
  apply BitVec.eq_of_toNat_eq
  rw [loByte_toNat, pairAddr_toNat]
  omega

/-- The stack cell a stack pointer value designates lies in page 1 (R23). -/
theorem stackAddr_toNat (sp : Byte) : (stackAddr sp).toNat = 256 + sp.toNat := by
  rw [stackAddr, pairAddr_toNat]
  simp

/-- Different stack pointer values designate different cells. -/
theorem stackAddr_injective {p q : Byte} (h : stackAddr p = stackAddr q) : p = q := by
  have := congrArg BitVec.toNat h
  rw [stackAddr_toNat, stackAddr_toNat] at this
  exact BitVec.eq_of_toNat_eq (by omega)

/-! ### Memory accesses and the stack -/

/-- Plain RAM answers with the byte last written (R61). -/
theorem answer_plainRam {s : State} (h : s.host = .plainRam) (w : Addr) : s.answer w = s.mem.read w.toNat := by
  simp [State.answer, h]

/-- The general host answers with the oracle's byte (R61). -/
theorem answer_general {s : State} (h : s.host = .general) (w : Addr) :
    s.answer w = Config.hostAnswer s.mem s.history w := by
  simp [State.answer, h]

/-- An answer depends on the host, the bytes written and the access history, on nothing else (D17). -/
theorem answer_congr {s t : State} (hh : s.host = t.host) (hm : s.mem = t.mem) (ha : s.history = t.history) (w : Addr) :
    s.answer w = t.answer w := by
  simp only [State.answer, hh, hm, ha]

/-- Where a step begins in the history changes no answer. -/
theorem answer_beginStep (s : State) (w : Addr) : s.beginStep.answer w = s.answer w :=
  answer_congr (s := s.beginStep) (t := s) rfl rfl (by simp [State.history, State.beginStep]) w

/-- A read changes no answer of plain RAM. -/
theorem answer_afterRead_plainRam {s : State} (h : s.host = .plainRam) (w w' : Addr) :
    (s.afterRead w).answer w' = s.answer w' := by
  simp [State.answer, State.afterRead, State.note, h]

theorem afterRead_eq (s : State) (w : Addr) :
    s.afterRead w = { s with port := s.port ++ [⟨.read, w, s.answer w⟩] } := rfl

theorem memRead_eq (s : State) (w : Addr) : s.memRead w = (s.answer w, s.afterRead w) := rfl

theorem memWrite_eq (s : State) (w : Addr) (v : Byte) :
    s.memWrite w v = { s with mem := s.mem.write w.toNat v, port := s.port ++ [⟨.write, w, v⟩] } := rfl

theorem fetchByte_eq (s : State) : s.fetchByte = (s.answer s.pc, { s.afterRead s.pc with pc := s.pc + 1 }) := rfl

theorem push_eq (s : State) (v : Byte) :
    s.push v =
      { s with
        s := s.s - 1
        mem := s.mem.write (stackAddr s.s).toNat v
        port := s.port ++ [⟨.write, stackAddr s.s, v⟩] } := rfl

theorem pull_eq (s : State) :
    s.pull = (s.answer (stackAddr (s.s + 1)), { s.afterRead (stackAddr (s.s + 1)) with s := s.s + 1 }) := rfl

/-- The transactions of two reads, one after the other. -/
def pairReads (s : State) (w w' : Addr) : List Access :=
  [⟨.read, w, s.answer w⟩, ⟨.read, w', (s.afterRead w).answer w'⟩]

theorem readPair_eq (s : State) (w w' : Addr) :
    s.readPair w w' =
      (pairAddr ((s.afterRead w).answer w') (s.answer w), { s with port := s.port ++ pairReads s w w' }) := by
  simp [State.readPair, memRead_eq, State.afterRead, State.note, pairReads]

/-- A push then a pull, in a canonical memory, gives the byte back. -/
theorem read_after_push (s : State) (v : Byte) (h : s.mem.wf = true) :
    (s.push v).mem.read (stackAddr s.s).toNat = v := Memory.read_write_same _ _ h

/-- A push leaves every other byte alone. -/
theorem push_read_other (s : State) (v : Byte) {k : Nat} (h : k ≠ (stackAddr s.s).toNat) :
    (s.push v).mem.read k = s.mem.read k := Memory.read_write_other _ _ h

theorem memWrite_wf {s : State} {w : Addr} {v : Byte} (h : s.mem.wf = true) : (s.memWrite w v).mem.wf = true :=
  Memory.wf_write h w.isLt

theorem push_wf {s : State} {v : Byte} (h : s.mem.wf = true) : (s.push v).mem.wf = true :=
  Memory.wf_write h (stackAddr s.s).isLt

theorem place_wf {s : State} {w : Addr} {bs : List Byte} (h : s.mem.wf = true) : (s.place w bs).mem.wf = true := by
  induction bs generalizing s w with
  | nil => exact h
  | cons b rest ih => exact ih (Memory.wf_write h w.isLt)

/-- Taking PC from a vector, said once: two reads, low byte first, and PC. -/
theorem jumpVector_eq (s : State) (vec : Addr) :
    s.jumpVector vec =
      { s with
        pc := pairAddr ((s.afterRead vec).answer (vec + 1)) (s.answer vec)
        port := s.port ++ pairReads s vec (vec + 1) } := by
  simp [State.jumpVector, readPair_eq, State.setPc]

/-- Taking an interrupt, said once (R307): three pushes, I, then PC from the vector; nothing else. -/
theorem interrupt_eq (s : State) (vec : Addr) (b : Bool) (ret : Addr) :
    s.interrupt vec b ret =
      ((((s.push (hiByte ret)).push (loByte ret)).push (s.pack b)).setI true).jumpVector vec := rfl

/-- Pulling a 16-bit value, said once: two pulls, low byte first. -/
theorem pullAddr_eq (s : State) :
    s.pullAddr =
      (pairAddr ((s.afterRead (stackAddr (s.s + 1))).answer (stackAddr (s.s + 2))) (s.answer (stackAddr (s.s + 1))),
        { s with s := s.s + 2, port := s.port ++ pairReads s (stackAddr (s.s + 1)) (stackAddr (s.s + 2)) }) := by
  have h : s.s + 1 + 1 = s.s + 2 := by rw [BitVec.add_assoc]; rfl
  have hr : ∀ w, ({ s.afterRead (stackAddr (s.s + 1)) with s := s.s + 1 } : State).answer w =
      (s.afterRead (stackAddr (s.s + 1))).answer w := fun _ => rfl
  simp only [State.pullAddr, pull_eq, h, hr]
  simp [State.afterRead, State.note, State.answer, State.history, pairReads]

/-- The return from a handler, said once (R290): three pulls, the flags, PC; nothing else. -/
theorem returnFromInterrupt_eq (s : State) :
    s.returnFromInterrupt = ((s.pull.2.unpack s.pull.1).pullAddr.2).setPc (s.pull.2.unpack s.pull.1).pullAddr.1 := rfl

/-- The RESET sequence, said once (R340): the fixed values, the unknowns, and two vector reads. -/
theorem resetSequence_eq (s : State) (u : ResetUnknowns) :
    s.resetSequence u =
      { s.beginStep with
        s := 0xFD, i := true, a := u.a, x := u.x, y := u.y, n := u.n, v := u.v, d := u.d, z := u.z, c := u.c
        nmiPending := false, rs := .running
        pc := pairAddr ((s.beginStep.afterRead 0xFFFC).answer 0xFFFD) (s.beginStep.answer 0xFFFC)
        cyc := Config.resetCycles, cyclesElapsed := Config.resetCycles
        port := pairReads s.beginStep 0xFFFC 0xFFFD } := by
  simp only [State.resetSequence, jumpVector_eq]
  rfl

/-! ### Operands -/

/-- The transactions a mode makes: its two pointer reads, low byte first, or none (R135). -/
def modeReads (s : State) : MemMode → List Access
  | .ind w => pairReads s w (pairAddr (hiByte w) (loByte w + 1))
  | .inx b => pairReads s (zeroPage (b + s.x)) (zeroPage (b + s.x + 1))
  | .iny b => pairReads s (zeroPage b) (zeroPage (b + 1))
  | _ => []

/-- The resolver changes nothing but the port, which gains the mode's pointer reads (R135, R136). -/
theorem resolve_after (s : State) (m : MemMode) :
    (s.resolve m).after = { s with port := s.port ++ modeReads s m } := by
  cases m <;>
    simp [State.resolve, State.zeroPagePointer, State.indexedFrom, readPair_eq, modeReads]

/-- Taking an operand from memory: the pointer reads, one read at `ea`, and nothing else. -/
theorem operand_mem (s : State) (m : MemMode) :
    s.operand (.mem m) =
      ⟨(s.resolve m).after.answer (s.resolve m).ea, (s.resolve m).crossed,
        (s.resolve m).after.afterRead (s.resolve m).ea⟩ := rfl

/-! ### Instruction shapes -/

theorem readType_eq (s : State) (src : Source) (base : Nat) (pen : Penalty) (act : State → Byte → State) :
    s.readType src base pen act =
      (act (s.operand src).after (s.operand src).value).finish (base + pen.cycles (s.operand src).crossed) := rfl

theorem writeType_eq (s : State) (m : MemMode) (base : Nat) (v : Byte) :
    s.writeType m base v = ((s.resolve m).after.memWrite (s.resolve m).ea v).finish base := rfl

theorem modifyType_eq (s : State) (m : MemMode) (base : Nat) (f : Byte → Byte) (act : State → Byte → Byte → State) :
    s.modifyType m base f act =
      (act
        (((s.resolve m).after.afterRead (s.resolve m).ea).memWrite (s.resolve m).ea
          (f ((s.resolve m).after.answer (s.resolve m).ea)))
        ((s.resolve m).after.answer (s.resolve m).ea)
        (f ((s.resolve m).after.answer (s.resolve m).ea))).finish base := rfl

/-- A branch writes PC and the cycles, nothing else, and spends 2 to 4 cycles (R230). -/
theorem branch_eq (s : State) (cond : Bool) (off : Byte) :
    s.branch cond off =
      { s with
        pc := if cond then branchTarget s.pc off else s.pc
        cyc := s.cyc + if cond then (if pageDiffers (branchTarget s.pc off) s.pc then 4 else 3) else 2
        cyclesElapsed := if cond then (if pageDiffers (branchTarget s.pc off) s.pc then 4 else 3) else 2 } := by
  cases cond <;> rfl

end Sys2Proof.Machine
end

