-- ==== Sys2Proof/Laws/PerInstr.lean ====
section
/-! SUPPORT. Families of statements about every instruction as syntax, one lemma per constructor. -/

namespace Sys2Proof.Laws.LengthFromMode

/-- An instruction's words are its opcode byte and the operand bytes of its mode, as many as R92 says, and from 1 to 3
(R90). -/
def Statement (i : Instr) : Prop :=
  (encode i).head? = some i.opcode ∧ (encode i).length = i.mode.name.length ∧ i.mode.name.length ≤ 3

theorem length_le (n : ModeName) : n.length ≤ 3 := by cases n <;> decide

theorem ldaImm (v : Byte) : Statement (.ldaImm v) := ⟨rfl, rfl, length_le _⟩
theorem ldaZp (b : Byte) : Statement (.ldaZp b) := ⟨rfl, rfl, length_le _⟩
theorem ldaZpx (b : Byte) : Statement (.ldaZpx b) := ⟨rfl, rfl, length_le _⟩
theorem ldaAbs (w : Addr) : Statement (.ldaAbs w) := ⟨rfl, rfl, length_le _⟩
theorem ldaAbx (w : Addr) : Statement (.ldaAbx w) := ⟨rfl, rfl, length_le _⟩
theorem ldaAby (w : Addr) : Statement (.ldaAby w) := ⟨rfl, rfl, length_le _⟩
theorem ldaInx (b : Byte) : Statement (.ldaInx b) := ⟨rfl, rfl, length_le _⟩
theorem ldaIny (b : Byte) : Statement (.ldaIny b) := ⟨rfl, rfl, length_le _⟩
theorem ldxImm (v : Byte) : Statement (.ldxImm v) := ⟨rfl, rfl, length_le _⟩
theorem ldxZp (b : Byte) : Statement (.ldxZp b) := ⟨rfl, rfl, length_le _⟩
theorem ldxZpy (b : Byte) : Statement (.ldxZpy b) := ⟨rfl, rfl, length_le _⟩
theorem ldxAbs (w : Addr) : Statement (.ldxAbs w) := ⟨rfl, rfl, length_le _⟩
theorem ldxAby (w : Addr) : Statement (.ldxAby w) := ⟨rfl, rfl, length_le _⟩
theorem ldyImm (v : Byte) : Statement (.ldyImm v) := ⟨rfl, rfl, length_le _⟩
theorem ldyZp (b : Byte) : Statement (.ldyZp b) := ⟨rfl, rfl, length_le _⟩
theorem ldyZpx (b : Byte) : Statement (.ldyZpx b) := ⟨rfl, rfl, length_le _⟩
theorem ldyAbs (w : Addr) : Statement (.ldyAbs w) := ⟨rfl, rfl, length_le _⟩
theorem ldyAbx (w : Addr) : Statement (.ldyAbx w) := ⟨rfl, rfl, length_le _⟩
theorem staZp (b : Byte) : Statement (.staZp b) := ⟨rfl, rfl, length_le _⟩
theorem staZpx (b : Byte) : Statement (.staZpx b) := ⟨rfl, rfl, length_le _⟩
theorem staAbs (w : Addr) : Statement (.staAbs w) := ⟨rfl, rfl, length_le _⟩
theorem staAbx (w : Addr) : Statement (.staAbx w) := ⟨rfl, rfl, length_le _⟩
theorem staAby (w : Addr) : Statement (.staAby w) := ⟨rfl, rfl, length_le _⟩
theorem staInx (b : Byte) : Statement (.staInx b) := ⟨rfl, rfl, length_le _⟩
theorem staIny (b : Byte) : Statement (.staIny b) := ⟨rfl, rfl, length_le _⟩
theorem stxZp (b : Byte) : Statement (.stxZp b) := ⟨rfl, rfl, length_le _⟩
theorem stxZpy (b : Byte) : Statement (.stxZpy b) := ⟨rfl, rfl, length_le _⟩
theorem stxAbs (w : Addr) : Statement (.stxAbs w) := ⟨rfl, rfl, length_le _⟩
theorem styZp (b : Byte) : Statement (.styZp b) := ⟨rfl, rfl, length_le _⟩
theorem styZpx (b : Byte) : Statement (.styZpx b) := ⟨rfl, rfl, length_le _⟩
theorem styAbs (w : Addr) : Statement (.styAbs w) := ⟨rfl, rfl, length_le _⟩
theorem adcImm (v : Byte) : Statement (.adcImm v) := ⟨rfl, rfl, length_le _⟩
theorem adcZp (b : Byte) : Statement (.adcZp b) := ⟨rfl, rfl, length_le _⟩
theorem adcZpx (b : Byte) : Statement (.adcZpx b) := ⟨rfl, rfl, length_le _⟩
theorem adcAbs (w : Addr) : Statement (.adcAbs w) := ⟨rfl, rfl, length_le _⟩
theorem adcAbx (w : Addr) : Statement (.adcAbx w) := ⟨rfl, rfl, length_le _⟩
theorem adcAby (w : Addr) : Statement (.adcAby w) := ⟨rfl, rfl, length_le _⟩
theorem adcInx (b : Byte) : Statement (.adcInx b) := ⟨rfl, rfl, length_le _⟩
theorem adcIny (b : Byte) : Statement (.adcIny b) := ⟨rfl, rfl, length_le _⟩
theorem sbcImm (v : Byte) : Statement (.sbcImm v) := ⟨rfl, rfl, length_le _⟩
theorem sbcZp (b : Byte) : Statement (.sbcZp b) := ⟨rfl, rfl, length_le _⟩
theorem sbcZpx (b : Byte) : Statement (.sbcZpx b) := ⟨rfl, rfl, length_le _⟩
theorem sbcAbs (w : Addr) : Statement (.sbcAbs w) := ⟨rfl, rfl, length_le _⟩
theorem sbcAbx (w : Addr) : Statement (.sbcAbx w) := ⟨rfl, rfl, length_le _⟩
theorem sbcAby (w : Addr) : Statement (.sbcAby w) := ⟨rfl, rfl, length_le _⟩
theorem sbcInx (b : Byte) : Statement (.sbcInx b) := ⟨rfl, rfl, length_le _⟩
theorem sbcIny (b : Byte) : Statement (.sbcIny b) := ⟨rfl, rfl, length_le _⟩
theorem andImm (v : Byte) : Statement (.andImm v) := ⟨rfl, rfl, length_le _⟩
theorem andZp (b : Byte) : Statement (.andZp b) := ⟨rfl, rfl, length_le _⟩
theorem andZpx (b : Byte) : Statement (.andZpx b) := ⟨rfl, rfl, length_le _⟩
theorem andAbs (w : Addr) : Statement (.andAbs w) := ⟨rfl, rfl, length_le _⟩
theorem andAbx (w : Addr) : Statement (.andAbx w) := ⟨rfl, rfl, length_le _⟩
theorem andAby (w : Addr) : Statement (.andAby w) := ⟨rfl, rfl, length_le _⟩
theorem andInx (b : Byte) : Statement (.andInx b) := ⟨rfl, rfl, length_le _⟩
theorem andIny (b : Byte) : Statement (.andIny b) := ⟨rfl, rfl, length_le _⟩
theorem oraImm (v : Byte) : Statement (.oraImm v) := ⟨rfl, rfl, length_le _⟩
theorem oraZp (b : Byte) : Statement (.oraZp b) := ⟨rfl, rfl, length_le _⟩
theorem oraZpx (b : Byte) : Statement (.oraZpx b) := ⟨rfl, rfl, length_le _⟩
theorem oraAbs (w : Addr) : Statement (.oraAbs w) := ⟨rfl, rfl, length_le _⟩
theorem oraAbx (w : Addr) : Statement (.oraAbx w) := ⟨rfl, rfl, length_le _⟩
theorem oraAby (w : Addr) : Statement (.oraAby w) := ⟨rfl, rfl, length_le _⟩
theorem oraInx (b : Byte) : Statement (.oraInx b) := ⟨rfl, rfl, length_le _⟩
theorem oraIny (b : Byte) : Statement (.oraIny b) := ⟨rfl, rfl, length_le _⟩
theorem eorImm (v : Byte) : Statement (.eorImm v) := ⟨rfl, rfl, length_le _⟩
theorem eorZp (b : Byte) : Statement (.eorZp b) := ⟨rfl, rfl, length_le _⟩
theorem eorZpx (b : Byte) : Statement (.eorZpx b) := ⟨rfl, rfl, length_le _⟩
theorem eorAbs (w : Addr) : Statement (.eorAbs w) := ⟨rfl, rfl, length_le _⟩
theorem eorAbx (w : Addr) : Statement (.eorAbx w) := ⟨rfl, rfl, length_le _⟩
theorem eorAby (w : Addr) : Statement (.eorAby w) := ⟨rfl, rfl, length_le _⟩
theorem eorInx (b : Byte) : Statement (.eorInx b) := ⟨rfl, rfl, length_le _⟩
theorem eorIny (b : Byte) : Statement (.eorIny b) := ⟨rfl, rfl, length_le _⟩
theorem bitZp (b : Byte) : Statement (.bitZp b) := ⟨rfl, rfl, length_le _⟩
theorem bitAbs (w : Addr) : Statement (.bitAbs w) := ⟨rfl, rfl, length_le _⟩
theorem aslAcc : Statement .aslAcc := ⟨rfl, rfl, length_le _⟩
theorem aslZp (b : Byte) : Statement (.aslZp b) := ⟨rfl, rfl, length_le _⟩
theorem aslZpx (b : Byte) : Statement (.aslZpx b) := ⟨rfl, rfl, length_le _⟩
theorem aslAbs (w : Addr) : Statement (.aslAbs w) := ⟨rfl, rfl, length_le _⟩
theorem aslAbx (w : Addr) : Statement (.aslAbx w) := ⟨rfl, rfl, length_le _⟩
theorem lsrAcc : Statement .lsrAcc := ⟨rfl, rfl, length_le _⟩
theorem lsrZp (b : Byte) : Statement (.lsrZp b) := ⟨rfl, rfl, length_le _⟩
theorem lsrZpx (b : Byte) : Statement (.lsrZpx b) := ⟨rfl, rfl, length_le _⟩
theorem lsrAbs (w : Addr) : Statement (.lsrAbs w) := ⟨rfl, rfl, length_le _⟩
theorem lsrAbx (w : Addr) : Statement (.lsrAbx w) := ⟨rfl, rfl, length_le _⟩
theorem rolAcc : Statement .rolAcc := ⟨rfl, rfl, length_le _⟩
theorem rolZp (b : Byte) : Statement (.rolZp b) := ⟨rfl, rfl, length_le _⟩
theorem rolZpx (b : Byte) : Statement (.rolZpx b) := ⟨rfl, rfl, length_le _⟩
theorem rolAbs (w : Addr) : Statement (.rolAbs w) := ⟨rfl, rfl, length_le _⟩
theorem rolAbx (w : Addr) : Statement (.rolAbx w) := ⟨rfl, rfl, length_le _⟩
theorem rorAcc : Statement .rorAcc := ⟨rfl, rfl, length_le _⟩
theorem rorZp (b : Byte) : Statement (.rorZp b) := ⟨rfl, rfl, length_le _⟩
theorem rorZpx (b : Byte) : Statement (.rorZpx b) := ⟨rfl, rfl, length_le _⟩
theorem rorAbs (w : Addr) : Statement (.rorAbs w) := ⟨rfl, rfl, length_le _⟩
theorem rorAbx (w : Addr) : Statement (.rorAbx w) := ⟨rfl, rfl, length_le _⟩
theorem cmpImm (v : Byte) : Statement (.cmpImm v) := ⟨rfl, rfl, length_le _⟩
theorem cmpZp (b : Byte) : Statement (.cmpZp b) := ⟨rfl, rfl, length_le _⟩
theorem cmpZpx (b : Byte) : Statement (.cmpZpx b) := ⟨rfl, rfl, length_le _⟩
theorem cmpAbs (w : Addr) : Statement (.cmpAbs w) := ⟨rfl, rfl, length_le _⟩
theorem cmpAbx (w : Addr) : Statement (.cmpAbx w) := ⟨rfl, rfl, length_le _⟩
theorem cmpAby (w : Addr) : Statement (.cmpAby w) := ⟨rfl, rfl, length_le _⟩
theorem cmpInx (b : Byte) : Statement (.cmpInx b) := ⟨rfl, rfl, length_le _⟩
theorem cmpIny (b : Byte) : Statement (.cmpIny b) := ⟨rfl, rfl, length_le _⟩
theorem cpxImm (v : Byte) : Statement (.cpxImm v) := ⟨rfl, rfl, length_le _⟩
theorem cpxZp (b : Byte) : Statement (.cpxZp b) := ⟨rfl, rfl, length_le _⟩
theorem cpxAbs (w : Addr) : Statement (.cpxAbs w) := ⟨rfl, rfl, length_le _⟩
theorem cpyImm (v : Byte) : Statement (.cpyImm v) := ⟨rfl, rfl, length_le _⟩
theorem cpyZp (b : Byte) : Statement (.cpyZp b) := ⟨rfl, rfl, length_le _⟩
theorem cpyAbs (w : Addr) : Statement (.cpyAbs w) := ⟨rfl, rfl, length_le _⟩
theorem incZp (b : Byte) : Statement (.incZp b) := ⟨rfl, rfl, length_le _⟩
theorem incZpx (b : Byte) : Statement (.incZpx b) := ⟨rfl, rfl, length_le _⟩
theorem incAbs (w : Addr) : Statement (.incAbs w) := ⟨rfl, rfl, length_le _⟩
theorem incAbx (w : Addr) : Statement (.incAbx w) := ⟨rfl, rfl, length_le _⟩
theorem decZp (b : Byte) : Statement (.decZp b) := ⟨rfl, rfl, length_le _⟩
theorem decZpx (b : Byte) : Statement (.decZpx b) := ⟨rfl, rfl, length_le _⟩
theorem decAbs (w : Addr) : Statement (.decAbs w) := ⟨rfl, rfl, length_le _⟩
theorem decAbx (w : Addr) : Statement (.decAbx w) := ⟨rfl, rfl, length_le _⟩
theorem inx : Statement .inx := ⟨rfl, rfl, length_le _⟩
theorem dex : Statement .dex := ⟨rfl, rfl, length_le _⟩
theorem iny : Statement .iny := ⟨rfl, rfl, length_le _⟩
theorem dey : Statement .dey := ⟨rfl, rfl, length_le _⟩
theorem bpl (off : Byte) : Statement (.bpl off) := ⟨rfl, rfl, length_le _⟩
theorem bmi (off : Byte) : Statement (.bmi off) := ⟨rfl, rfl, length_le _⟩
theorem bvc (off : Byte) : Statement (.bvc off) := ⟨rfl, rfl, length_le _⟩
theorem bvs (off : Byte) : Statement (.bvs off) := ⟨rfl, rfl, length_le _⟩
theorem bcc (off : Byte) : Statement (.bcc off) := ⟨rfl, rfl, length_le _⟩
theorem bcs (off : Byte) : Statement (.bcs off) := ⟨rfl, rfl, length_le _⟩
theorem bne (off : Byte) : Statement (.bne off) := ⟨rfl, rfl, length_le _⟩
theorem beq (off : Byte) : Statement (.beq off) := ⟨rfl, rfl, length_le _⟩
theorem jmpAbs (w : Addr) : Statement (.jmpAbs w) := ⟨rfl, rfl, length_le _⟩
theorem jmpInd (w : Addr) : Statement (.jmpInd w) := ⟨rfl, rfl, length_le _⟩
theorem jsr (w : Addr) : Statement (.jsr w) := ⟨rfl, rfl, length_le _⟩
theorem rts : Statement .rts := ⟨rfl, rfl, length_le _⟩
theorem pha : Statement .pha := ⟨rfl, rfl, length_le _⟩
theorem pla : Statement .pla := ⟨rfl, rfl, length_le _⟩
theorem php : Statement .php := ⟨rfl, rfl, length_le _⟩
theorem plp : Statement .plp := ⟨rfl, rfl, length_le _⟩
theorem tsx : Statement .tsx := ⟨rfl, rfl, length_le _⟩
theorem txs : Statement .txs := ⟨rfl, rfl, length_le _⟩
theorem tax : Statement .tax := ⟨rfl, rfl, length_le _⟩
theorem tay : Statement .tay := ⟨rfl, rfl, length_le _⟩
theorem txa : Statement .txa := ⟨rfl, rfl, length_le _⟩
theorem tya : Statement .tya := ⟨rfl, rfl, length_le _⟩
theorem clc : Statement .clc := ⟨rfl, rfl, length_le _⟩
theorem sec : Statement .sec := ⟨rfl, rfl, length_le _⟩
theorem cli : Statement .cli := ⟨rfl, rfl, length_le _⟩
theorem sei : Statement .sei := ⟨rfl, rfl, length_le _⟩
theorem cld : Statement .cld := ⟨rfl, rfl, length_le _⟩
theorem sed : Statement .sed := ⟨rfl, rfl, length_le _⟩
theorem clv : Statement .clv := ⟨rfl, rfl, length_le _⟩
theorem nop : Statement .nop := ⟨rfl, rfl, length_le _⟩
theorem brk : Statement .brk := ⟨rfl, rfl, length_le _⟩
theorem rti : Statement .rti := ⟨rfl, rfl, length_le _⟩
theorem undoc (op : Byte) : Statement (.undoc op) := ⟨rfl, rfl, length_le _⟩

end Sys2Proof.Laws.LengthFromMode
end

