-- ==== Sys2Proof/Laws/Safety.lean ====
section
/-! SUPPORT. The host's answers and the reads of a step in the spec's numbers (Safety.lean) are those of the machine's
operations (Ops.lean), said once for each. -/

namespace Sys2Proof.Spec

open Machine

/-- The spec's answer at the number of an address is the machine's. -/
theorem answered_eq (s : State) (w : Addr) : answered s w.toNat = s.answer w := by
  cases h : s.host <;> simp [answered, State.answer, State.history, h]

/-- Plain RAM answers with the byte last written. -/
theorem answered_plainRam {s : State} (h : s.host = .plainRam) (k : Nat) : answered s k = s.mem.read k := by
  simp [answered, h]

/-- The general host answers with the oracle's byte. -/
theorem answered_general {s : State} (h : s.host = .general) (k : Nat) :
    answered s k = Config.hostAnswer s.mem (s.past ++ s.port) (BitVec.ofNat 16 k) := by
  simp [answered, h]

/-- An answer depends on the host, the bytes written and the access history alone. -/
theorem answered_congr {s t : State} (hh : s.host = t.host) (hm : s.mem = t.mem)
    (ha : s.past ++ s.port = t.past ++ t.port) (k : Nat) : answered s k = answered t k := by
  simp only [answered, hh, hm, ha]

/-- The step's start is the same in both spellings. -/
theorem begun_eq (s : State) : begun s = s.beginStep := rfl

/-- One read is the machine's. -/
theorem readsAt_one (s : State) (w : Addr) : readsAt s [w.toNat] = [⟨.read, w, s.answer w⟩] := by
  simp [readsAt, answered_eq]

/-- The state after one read is the machine's. -/
theorem afterReadsAt_one (s : State) (w : Addr) : afterReadsAt s [w.toNat] = s.afterRead w := by
  rw [afterReadsAt, readsAt_one]
  rfl

/-- Reads in a row are the first ones, then the others in the state after them. -/
theorem readsAt_append (s : State) (ks ls : List Nat) :
    readsAt s (ks ++ ls) = readsAt s ks ++ readsAt (afterReadsAt s ks) ls := by
  induction ks generalizing s with
  | nil => simp [readsAt, afterReadsAt]
  | cons k ks ih => simp [readsAt, afterReadsAt, ih]

/-- There is one read for each address. -/
theorem readsAt_length (s : State) (ks : List Nat) : (readsAt s ks).length = ks.length := by
  induction ks generalizing s with
  | nil => rfl
  | cons k ks ih => simp [readsAt, ih]

/-- Reads write nothing. -/
theorem readsAt_direction (s : State) (ks : List Nat) : ∀ q ∈ readsAt s ks, q.direction = .read := by
  induction ks generalizing s with
  | nil => simp [readsAt]
  | cons k ks ih =>
    intro q hq
    rcases List.mem_cons.mp hq with rfl | hq
    · rfl
    · exact ih _ q hq

/-- The reads depend on the host, the bytes written and the access history alone. -/
theorem readsAt_congr {s t : State} (hh : s.host = t.host) (hm : s.mem = t.mem)
    (ha : s.past ++ s.port = t.past ++ t.port) (ks : List Nat) : readsAt s ks = readsAt t ks := by
  induction ks generalizing s t with
  | nil => rfl
  | cons k ks ih =>
    have hk := answered_congr hh hm ha k
    simp only [readsAt, hk]
    exact congrArg _ (ih hh hm (by simp only [← List.append_assoc, ha]))

/-- The machine's two reads in a row are the spec's. -/
theorem pairReads_eq (s : State) (w w' : Addr) : pairReads s w w' = readsAt s [w.toNat, w'.toNat] := by
  have h := readsAt_append s [w.toNat] [w'.toNat]
  rw [readsAt_one, afterReadsAt_one, readsAt_one] at h
  exact h.symm

/-- The machine's word of two reads is the spec's. -/
theorem wordAt_eq (s : State) (w w' : Addr) :
    wordAt s w.toNat w'.toNat = (pairAddr ((s.afterRead w).answer w') (s.answer w)).toNat := by
  rw [wordAt, byteAt, byteAt, afterReadsAt_one, answered_eq, answered_eq, pairAddr_toNat]

/-- The transactions of two lists, made one list after the other. -/
theorem writtenBy_append (m : Memory) (ps qs : List Access) :
    writtenBy m (ps ++ qs) = writtenBy (writtenBy m ps) qs := by
  induction ps generalizing m with
  | nil => rfl
  | cons p ps ih => exact ih _

/-- Reads change no byte last written. -/
theorem writtenBy_readsAt (m : Memory) (s : State) (ks : List Nat) : writtenBy m (readsAt s ks) = m := by
  induction ks generalizing s with
  | nil => rfl
  | cons k ks ih => exact ih _

end Sys2Proof.Spec
end

