-- ==== Sys2Proof/Laws/Step.lean ====
section
/-! SUPPORT. What a step can do, said once, and what fetching an instruction leaves. -/

namespace Sys2Proof.Machine

/-- A fetch writes PC and the port and nothing else (R26). -/
theorem fetchInstr_frame (s : State) :
    s.fetchInstr.2 = { s with pc := s.fetchInstr.2.pc, port := s.fetchInstr.2.port } := by
  simp only [State.fetchInstr, fetchByte_eq]
  split <;> rfl

/-- A fetch changes no byte of memory. -/
theorem fetchInstr_mem (s : State) : s.fetchInstr.2.mem = s.mem := by rw [fetchInstr_frame]

/-- A step that answers a next state began in Running and was an NMI service, an IRQ service with no NMI pending and I
clear, or one instruction with no interrupt to take (R300). -/
theorem step_cases {s t : State} (h : step s = .next t) :
    s.rs = .running ∧
      ((s.nmiPending = true ∧ t = s.beginStep.serviceNmi) ∨
        (s.nmiPending = false ∧ s.takesIrq = true ∧ t = s.beginStep.serviceIrq) ∨
        (s.nmiPending = false ∧ s.takesIrq = false ∧
          exec s.beginStep.fetchInstr.1 s.beginStep.fetchInstr.2 = .next t)) := by
  unfold step stepEvent at h
  split at h
  · cases h
  · rename_i hr
    refine ⟨hr, ?_⟩
    split at h
    · exact .inl ⟨‹_›, by cases h; rfl⟩
    · rename_i hn
      split at h
      · exact .inr (.inl ⟨by simpa using hn, ‹_›, by cases h; rfl⟩)
      · rename_i hq
        exact .inr (.inr ⟨by simpa using hn, by simpa using hq, h⟩)

end Sys2Proof.Machine
end

