-- ==== Sys2Proof/Tests/Slice0.lean ====
section
/-! SUPPORT. The model's own tests. Expected values come from 30_encoding.md R92 to R97 (decoding), 95_test_vectors.md
(single steps, on its default start state A = X = Y = 00, S = FD, PC = 0200, I = 1, with memory 00 elsewhere) and the
rule named beside a test. The witnesses show that each statement's hypotheses can be met together. -/

namespace Sys2Proof.Tests

open Machine Spec

/-- The default start state of 95_test_vectors.md. -/
def start : State := { State.reset with pc := 0x0200, cyc := 0, cyclesElapsed := 0 }

/-- `s` with an instruction's bytes at PC and further bytes elsewhere. -/
def boot (s : State) (code : List Byte) (cells : List (Nat × Byte)) : State :=
  cells.foldl (fun t c => { t with mem := t.mem.write c.1 c.2 }) (s.place s.pc code)

/-- The step from `s` answers a next state that passes the check. -/
def ran (s : State) (check : State → Bool) : Bool :=
  match step s with
  | .next t => check t
  | .fault _ => false
  | .refused _ => false

/-- The next state of an outcome. -/
def result : Outcome → State
  | .next t => t
  | .fault _ => State.reset
  | .refused _ => State.reset

/-- N, V, D, I, Z, C, in this order. -/
def flags (s : State) : BitVec 6 :=
  BitVec.ofBool s.n ++ BitVec.ofBool s.v ++ BitVec.ofBool s.d ++
    BitVec.ofBool s.i ++ BitVec.ofBool s.z ++ BitVec.ofBool s.c

/-- The bytes are exactly one instruction, `i`. -/
def decodesTo (bytes : List Byte) (i : Instr) : Bool :=
  match decode bytes with
  | .ok (j, rest) => j == i && rest.isEmpty
  | .error _ => false

/-- A row of the ADC and SBC tables. -/
def row (r : AluResult) (value : Byte) (n v z c : Bool) : Bool :=
  r.value == value && r.value.getLsbD 7 == n && r.overflow == v && (r.value == 0) == z && r.carry == c

/-! ### Decoding, every opcode of R96 -/

theorem test_decode_adc :
    (decodesTo [0x69, 0x34] (.adcImm 0x34) &&
    decodesTo [0x65, 0x34] (.adcZp 0x34) &&
    decodesTo [0x75, 0x34] (.adcZpx 0x34) &&
    decodesTo [0x6D, 0x34, 0x12] (.adcAbs 0x1234) &&
    decodesTo [0x7D, 0x34, 0x12] (.adcAbx 0x1234) &&
    decodesTo [0x79, 0x34, 0x12] (.adcAby 0x1234) &&
    decodesTo [0x61, 0x34] (.adcInx 0x34) &&
    decodesTo [0x71, 0x34] (.adcIny 0x34)) = true := by decide

theorem test_decode_and :
    (decodesTo [0x29, 0x34] (.andImm 0x34) &&
    decodesTo [0x25, 0x34] (.andZp 0x34) &&
    decodesTo [0x35, 0x34] (.andZpx 0x34) &&
    decodesTo [0x2D, 0x34, 0x12] (.andAbs 0x1234) &&
    decodesTo [0x3D, 0x34, 0x12] (.andAbx 0x1234) &&
    decodesTo [0x39, 0x34, 0x12] (.andAby 0x1234) &&
    decodesTo [0x21, 0x34] (.andInx 0x34) &&
    decodesTo [0x31, 0x34] (.andIny 0x34)) = true := by decide

theorem test_decode_asl :
    (decodesTo [0x0A] .aslAcc &&
    decodesTo [0x06, 0x34] (.aslZp 0x34) &&
    decodesTo [0x16, 0x34] (.aslZpx 0x34) &&
    decodesTo [0x0E, 0x34, 0x12] (.aslAbs 0x1234) &&
    decodesTo [0x1E, 0x34, 0x12] (.aslAbx 0x1234)) = true := by decide

theorem test_decode_bcc :
    (decodesTo [0x90, 0x34] (.bcc 0x34)) = true := by decide

theorem test_decode_bcs :
    (decodesTo [0xB0, 0x34] (.bcs 0x34)) = true := by decide

theorem test_decode_beq :
    (decodesTo [0xF0, 0x34] (.beq 0x34)) = true := by decide

theorem test_decode_bit :
    (decodesTo [0x24, 0x34] (.bitZp 0x34) &&
    decodesTo [0x2C, 0x34, 0x12] (.bitAbs 0x1234)) = true := by decide

theorem test_decode_bmi :
    (decodesTo [0x30, 0x34] (.bmi 0x34)) = true := by decide

theorem test_decode_bne :
    (decodesTo [0xD0, 0x34] (.bne 0x34)) = true := by decide

theorem test_decode_bpl :
    (decodesTo [0x10, 0x34] (.bpl 0x34)) = true := by decide

theorem test_decode_brk :
    (decodesTo [0x00] .brk) = true := by decide

theorem test_decode_bvc :
    (decodesTo [0x50, 0x34] (.bvc 0x34)) = true := by decide

theorem test_decode_bvs :
    (decodesTo [0x70, 0x34] (.bvs 0x34)) = true := by decide

theorem test_decode_clc :
    (decodesTo [0x18] .clc) = true := by decide

theorem test_decode_cld :
    (decodesTo [0xD8] .cld) = true := by decide

theorem test_decode_cli :
    (decodesTo [0x58] .cli) = true := by decide

theorem test_decode_clv :
    (decodesTo [0xB8] .clv) = true := by decide

theorem test_decode_cmp :
    (decodesTo [0xC9, 0x34] (.cmpImm 0x34) &&
    decodesTo [0xC5, 0x34] (.cmpZp 0x34) &&
    decodesTo [0xD5, 0x34] (.cmpZpx 0x34) &&
    decodesTo [0xCD, 0x34, 0x12] (.cmpAbs 0x1234) &&
    decodesTo [0xDD, 0x34, 0x12] (.cmpAbx 0x1234) &&
    decodesTo [0xD9, 0x34, 0x12] (.cmpAby 0x1234) &&
    decodesTo [0xC1, 0x34] (.cmpInx 0x34) &&
    decodesTo [0xD1, 0x34] (.cmpIny 0x34)) = true := by decide

theorem test_decode_cpx :
    (decodesTo [0xE0, 0x34] (.cpxImm 0x34) &&
    decodesTo [0xE4, 0x34] (.cpxZp 0x34) &&
    decodesTo [0xEC, 0x34, 0x12] (.cpxAbs 0x1234)) = true := by decide

theorem test_decode_cpy :
    (decodesTo [0xC0, 0x34] (.cpyImm 0x34) &&
    decodesTo [0xC4, 0x34] (.cpyZp 0x34) &&
    decodesTo [0xCC, 0x34, 0x12] (.cpyAbs 0x1234)) = true := by decide

theorem test_decode_dec :
    (decodesTo [0xC6, 0x34] (.decZp 0x34) &&
    decodesTo [0xD6, 0x34] (.decZpx 0x34) &&
    decodesTo [0xCE, 0x34, 0x12] (.decAbs 0x1234) &&
    decodesTo [0xDE, 0x34, 0x12] (.decAbx 0x1234)) = true := by decide

theorem test_decode_dex :
    (decodesTo [0xCA] .dex) = true := by decide

theorem test_decode_dey :
    (decodesTo [0x88] .dey) = true := by decide

theorem test_decode_eor :
    (decodesTo [0x49, 0x34] (.eorImm 0x34) &&
    decodesTo [0x45, 0x34] (.eorZp 0x34) &&
    decodesTo [0x55, 0x34] (.eorZpx 0x34) &&
    decodesTo [0x4D, 0x34, 0x12] (.eorAbs 0x1234) &&
    decodesTo [0x5D, 0x34, 0x12] (.eorAbx 0x1234) &&
    decodesTo [0x59, 0x34, 0x12] (.eorAby 0x1234) &&
    decodesTo [0x41, 0x34] (.eorInx 0x34) &&
    decodesTo [0x51, 0x34] (.eorIny 0x34)) = true := by decide

theorem test_decode_inc :
    (decodesTo [0xE6, 0x34] (.incZp 0x34) &&
    decodesTo [0xF6, 0x34] (.incZpx 0x34) &&
    decodesTo [0xEE, 0x34, 0x12] (.incAbs 0x1234) &&
    decodesTo [0xFE, 0x34, 0x12] (.incAbx 0x1234)) = true := by decide

theorem test_decode_inx :
    (decodesTo [0xE8] .inx) = true := by decide

theorem test_decode_iny :
    (decodesTo [0xC8] .iny) = true := by decide

theorem test_decode_jmp :
    (decodesTo [0x4C, 0x34, 0x12] (.jmpAbs 0x1234) &&
    decodesTo [0x6C, 0x34, 0x12] (.jmpInd 0x1234)) = true := by decide

theorem test_decode_jsr :
    (decodesTo [0x20, 0x34, 0x12] (.jsr 0x1234)) = true := by decide

theorem test_decode_lda :
    (decodesTo [0xA9, 0x34] (.ldaImm 0x34) &&
    decodesTo [0xA5, 0x34] (.ldaZp 0x34) &&
    decodesTo [0xB5, 0x34] (.ldaZpx 0x34) &&
    decodesTo [0xAD, 0x34, 0x12] (.ldaAbs 0x1234) &&
    decodesTo [0xBD, 0x34, 0x12] (.ldaAbx 0x1234) &&
    decodesTo [0xB9, 0x34, 0x12] (.ldaAby 0x1234) &&
    decodesTo [0xA1, 0x34] (.ldaInx 0x34) &&
    decodesTo [0xB1, 0x34] (.ldaIny 0x34)) = true := by decide

theorem test_decode_ldx :
    (decodesTo [0xA2, 0x34] (.ldxImm 0x34) &&
    decodesTo [0xA6, 0x34] (.ldxZp 0x34) &&
    decodesTo [0xB6, 0x34] (.ldxZpy 0x34) &&
    decodesTo [0xAE, 0x34, 0x12] (.ldxAbs 0x1234) &&
    decodesTo [0xBE, 0x34, 0x12] (.ldxAby 0x1234)) = true := by decide

theorem test_decode_ldy :
    (decodesTo [0xA0, 0x34] (.ldyImm 0x34) &&
    decodesTo [0xA4, 0x34] (.ldyZp 0x34) &&
    decodesTo [0xB4, 0x34] (.ldyZpx 0x34) &&
    decodesTo [0xAC, 0x34, 0x12] (.ldyAbs 0x1234) &&
    decodesTo [0xBC, 0x34, 0x12] (.ldyAbx 0x1234)) = true := by decide

theorem test_decode_lsr :
    (decodesTo [0x4A] .lsrAcc &&
    decodesTo [0x46, 0x34] (.lsrZp 0x34) &&
    decodesTo [0x56, 0x34] (.lsrZpx 0x34) &&
    decodesTo [0x4E, 0x34, 0x12] (.lsrAbs 0x1234) &&
    decodesTo [0x5E, 0x34, 0x12] (.lsrAbx 0x1234)) = true := by decide

theorem test_decode_nop :
    (decodesTo [0xEA] .nop) = true := by decide

theorem test_decode_ora :
    (decodesTo [0x09, 0x34] (.oraImm 0x34) &&
    decodesTo [0x05, 0x34] (.oraZp 0x34) &&
    decodesTo [0x15, 0x34] (.oraZpx 0x34) &&
    decodesTo [0x0D, 0x34, 0x12] (.oraAbs 0x1234) &&
    decodesTo [0x1D, 0x34, 0x12] (.oraAbx 0x1234) &&
    decodesTo [0x19, 0x34, 0x12] (.oraAby 0x1234) &&
    decodesTo [0x01, 0x34] (.oraInx 0x34) &&
    decodesTo [0x11, 0x34] (.oraIny 0x34)) = true := by decide

theorem test_decode_pha :
    (decodesTo [0x48] .pha) = true := by decide

theorem test_decode_php :
    (decodesTo [0x08] .php) = true := by decide

theorem test_decode_pla :
    (decodesTo [0x68] .pla) = true := by decide

theorem test_decode_plp :
    (decodesTo [0x28] .plp) = true := by decide

theorem test_decode_rol :
    (decodesTo [0x2A] .rolAcc &&
    decodesTo [0x26, 0x34] (.rolZp 0x34) &&
    decodesTo [0x36, 0x34] (.rolZpx 0x34) &&
    decodesTo [0x2E, 0x34, 0x12] (.rolAbs 0x1234) &&
    decodesTo [0x3E, 0x34, 0x12] (.rolAbx 0x1234)) = true := by decide

theorem test_decode_ror :
    (decodesTo [0x6A] .rorAcc &&
    decodesTo [0x66, 0x34] (.rorZp 0x34) &&
    decodesTo [0x76, 0x34] (.rorZpx 0x34) &&
    decodesTo [0x6E, 0x34, 0x12] (.rorAbs 0x1234) &&
    decodesTo [0x7E, 0x34, 0x12] (.rorAbx 0x1234)) = true := by decide

theorem test_decode_rti :
    (decodesTo [0x40] .rti) = true := by decide

theorem test_decode_rts :
    (decodesTo [0x60] .rts) = true := by decide

theorem test_decode_sbc :
    (decodesTo [0xE9, 0x34] (.sbcImm 0x34) &&
    decodesTo [0xE5, 0x34] (.sbcZp 0x34) &&
    decodesTo [0xF5, 0x34] (.sbcZpx 0x34) &&
    decodesTo [0xED, 0x34, 0x12] (.sbcAbs 0x1234) &&
    decodesTo [0xFD, 0x34, 0x12] (.sbcAbx 0x1234) &&
    decodesTo [0xF9, 0x34, 0x12] (.sbcAby 0x1234) &&
    decodesTo [0xE1, 0x34] (.sbcInx 0x34) &&
    decodesTo [0xF1, 0x34] (.sbcIny 0x34)) = true := by decide

theorem test_decode_sec :
    (decodesTo [0x38] .sec) = true := by decide

theorem test_decode_sed :
    (decodesTo [0xF8] .sed) = true := by decide

theorem test_decode_sei :
    (decodesTo [0x78] .sei) = true := by decide

theorem test_decode_sta :
    (decodesTo [0x85, 0x34] (.staZp 0x34) &&
    decodesTo [0x95, 0x34] (.staZpx 0x34) &&
    decodesTo [0x8D, 0x34, 0x12] (.staAbs 0x1234) &&
    decodesTo [0x9D, 0x34, 0x12] (.staAbx 0x1234) &&
    decodesTo [0x99, 0x34, 0x12] (.staAby 0x1234) &&
    decodesTo [0x81, 0x34] (.staInx 0x34) &&
    decodesTo [0x91, 0x34] (.staIny 0x34)) = true := by decide

theorem test_decode_stx :
    (decodesTo [0x86, 0x34] (.stxZp 0x34) &&
    decodesTo [0x96, 0x34] (.stxZpy 0x34) &&
    decodesTo [0x8E, 0x34, 0x12] (.stxAbs 0x1234)) = true := by decide

theorem test_decode_sty :
    (decodesTo [0x84, 0x34] (.styZp 0x34) &&
    decodesTo [0x94, 0x34] (.styZpx 0x34) &&
    decodesTo [0x8C, 0x34, 0x12] (.styAbs 0x1234)) = true := by decide

theorem test_decode_tax :
    (decodesTo [0xAA] .tax) = true := by decide

theorem test_decode_tay :
    (decodesTo [0xA8] .tay) = true := by decide

theorem test_decode_tsx :
    (decodesTo [0xBA] .tsx) = true := by decide

theorem test_decode_txa :
    (decodesTo [0x8A] .txa) = true := by decide

theorem test_decode_txs :
    (decodesTo [0x9A] .txs) = true := by decide

theorem test_decode_tya :
    (decodesTo [0x98] .tya) = true := by decide

/-! ### Single steps -/

/-- V1 of 95_test_vectors.md. -/
theorem test_v1_lda_80 :
    ran (boot start [0xA9, 0x80] [])
      (fun t => t.a == 0x80 && flags t == 0b100100 && t.cyclesElapsed == 2) = true := by decide

/-- V2 of 95_test_vectors.md. -/
theorem test_v2_lda_10 :
    ran (boot start [0xA5, 0x10] [])
      (fun t => flags t == 0b000110 && t.cyclesElapsed == 3) = true := by decide

/-- V3 of 95_test_vectors.md. -/
theorem test_v3_lda_f0_x :
    ran (boot { start with x := 0x20 } [0xB5, 0xF0] [(0x0010, 0x77), (0x0110, 0xEE)])
      (fun t => t.a == 0x77 && t.cyclesElapsed == 4) = true := by decide

/-- V4 of 95_test_vectors.md. -/
theorem test_v4_ldx_f0_y :
    ran (boot { start with y := 0x20 } [0xB6, 0xF0] [(0x0010, 0x55), (0x0110, 0xEE)])
      (fun t => t.x == 0x55 && t.cyclesElapsed == 4) = true := by decide

/-- V5 of 95_test_vectors.md. -/
theorem test_v5_lda_1234 :
    ran (boot start [0xAD, 0x34, 0x12] [(0x1234, 0x42)])
      (fun t => t.a == 0x42 && t.cyclesElapsed == 4) = true := by decide

/-- V6 of 95_test_vectors.md. -/
theorem test_v6_lda_12f0_x :
    ran (boot { start with x := 0x0F } [0xBD, 0xF0, 0x12] [(0x12FF, 0x01)])
      (fun t => t.a == 0x01 && t.cyclesElapsed == 4) = true := by decide

/-- V7 of 95_test_vectors.md. -/
theorem test_v7_lda_12f0_x :
    ran (boot { start with x := 0x10 } [0xBD, 0xF0, 0x12] [(0x1300, 0x02)])
      (fun t => t.a == 0x02 && t.cyclesElapsed == 5) = true := by decide

/-- V8 of 95_test_vectors.md. -/
theorem test_v8_lda_fff0_y :
    ran (boot { start with y := 0x20 } [0xB9, 0xF0, 0xFF] [(0x0010, 0x99)])
      (fun t => t.a == 0x99 && flags t == 0b100100 && t.cyclesElapsed == 5) = true := by decide

/-- V9 of 95_test_vectors.md. -/
theorem test_v9_lda_fe_x :
    ran (boot { start with x := 0x01 } [0xA1, 0xFE] [(0x0000, 0x12), (0x00FF, 0x34), (0x0100, 0xEE), (0x1234, 0xAB)])
      (fun t => t.a == 0xAB && flags t == 0b100100 && t.cyclesElapsed == 6) = true := by decide

/-- V10 of 95_test_vectors.md. -/
theorem test_v10_lda_40_x :
    ran (boot { start with x := 0x04 } [0xA1, 0x40] [(0x0045, 0x30), (0x3000, 0x5A)])
      (fun t => t.a == 0x5A && t.cyclesElapsed == 6) = true := by decide

/-- V11 of 95_test_vectors.md. -/
theorem test_v11_lda_40_y :
    ran (boot { start with y := 0x10 } [0xB1, 0x40] [(0x0040, 0xF0), (0x0041, 0x20), (0x2100, 0x7F)])
      (fun t => t.a == 0x7F && t.cyclesElapsed == 6) = true := by decide

/-- V12 of 95_test_vectors.md. -/
theorem test_v12_lda_40_y :
    ran (boot { start with y := 0x0F } [0xB1, 0x40] [(0x0040, 0xF0), (0x0041, 0x20), (0x20FF, 0x80)])
      (fun t => t.a == 0x80 && flags t == 0b100100 && t.cyclesElapsed == 5) = true := by decide

/-- V14 of 95_test_vectors.md. -/
theorem test_v14_jmp_10ff :
    ran (boot start [0x6C, 0xFF, 0x10] [(0x1000, 0x12), (0x10FF, 0x34), (0x1100, 0x56)])
      (fun t => t.pc == 0x1234 && t.cyclesElapsed == 5) = true := by decide

/-- V15 of 95_test_vectors.md. -/
theorem test_v15_jmp_1080 :
    ran (boot start [0x6C, 0x80, 0x10] [(0x1080, 0xCD), (0x1081, 0xAB)])
      (fun t => t.pc == 0xABCD && t.cyclesElapsed == 5) = true := by decide

/-- V17 of 95_test_vectors.md. -/
theorem test_v17_sta_12f0_x :
    ran (boot { start with a := 0x3C, x := 0x10 } [0x9D, 0xF0, 0x12] [])
      (fun t => t.mem.read 0x1300 == 0x3C && t.cyclesElapsed == 5) = true := by decide

/-- V18 of 95_test_vectors.md. -/
theorem test_v18_sta_40_y :
    ran (boot { start with a := 0x3C, y := 0x10 } [0x91, 0x40] [(0x0040, 0xF0), (0x0041, 0x20)])
      (fun t => t.mem.read 0x2100 == 0x3C && t.cyclesElapsed == 6) = true := by decide

/-- V20 of 95_test_vectors.md. -/
theorem test_v20_lda_00 :
    ran (boot { start with a := 0x55, n := true } [0xA9, 0x00] [])
      (fun t => t.a == 0x00 && flags t == 0b000110 && t.cyclesElapsed == 2) = true := by decide

/-- V21 of 95_test_vectors.md. -/
theorem test_v21_ldx_ff :
    ran (boot start [0xA2, 0xFF] [])
      (fun t => t.x == 0xFF && flags t == 0b100100 && t.cyclesElapsed == 2) = true := by decide

/-- V22 of 95_test_vectors.md. -/
theorem test_v22_ldy_10 :
    ran (boot { start with n := true, z := true } [0xA4, 0x10] [(0x0010, 0x7F)])
      (fun t => t.y == 0x7F && flags t == 0b000100 && t.cyclesElapsed == 3) = true := by decide

/-- V23 of 95_test_vectors.md. -/
theorem test_v23_ldx_12f0_y :
    ran (boot { start with y := 0x20 } [0xBE, 0xF0, 0x12] [])
      (fun t => flags t == 0b000110 && t.cyclesElapsed == 5) = true := by decide

/-- V24 of 95_test_vectors.md. -/
theorem test_v24_ldy_12f0_x :
    ran (boot { start with x := 0x01 } [0xBC, 0xF0, 0x12] [(0x12F1, 0x80)])
      (fun t => t.y == 0x80 && flags t == 0b100100 && t.cyclesElapsed == 4) = true := by decide

/-- V25 of 95_test_vectors.md. -/
theorem test_v25_sta_10 :
    ran (boot { start with n := true, c := true } [0x85, 0x10] [])
      (fun t => t.mem.read 0x0010 == 0x00 && t.cyclesElapsed == 3) = true := by decide

/-- V26 of 95_test_vectors.md. -/
theorem test_v26_stx_f0_y :
    ran (boot { start with x := 0xAA, y := 0x11 } [0x96, 0xF0] [])
      (fun t => t.mem.read 0x0001 == 0xAA && t.cyclesElapsed == 4) = true := by decide

/-- V27 of 95_test_vectors.md. -/
theorem test_v27_sty_1234 :
    ran (boot { start with y := 0x80 } [0x8C, 0x34, 0x12] [])
      (fun t => t.mem.read 0x1234 == 0x80 && t.cyclesElapsed == 4) = true := by decide

/-- V28 of 95_test_vectors.md. -/
theorem test_v28_sta_fe_x :
    ran (boot { start with a := 0x11, x := 0x02 } [0x81, 0xFE] [(0x0001, 0x40)])
      (fun t => t.mem.read 0x4000 == 0x11 && t.cyclesElapsed == 6) = true := by decide

/-- V29 of 95_test_vectors.md. -/
theorem test_v29_sta_0201_self_modifying :
    ran (boot { start with a := 0xEA } [0x8D, 0x01, 0x02] [])
      (fun t => t.mem.read 0x0201 == 0xEA && t.cyclesElapsed == 4) = true := by decide

/-- V60 of 95_test_vectors.md. -/
theorem test_v60_and_0f :
    ran (boot { start with a := 0xF0 } [0x29, 0x0F] [])
      (fun t => t.a == 0x00 && flags t == 0b000110 && t.cyclesElapsed == 2) = true := by decide

/-- V61 of 95_test_vectors.md. -/
theorem test_v61_and_80 :
    ran (boot { start with a := 0xFF, v := true, z := true, c := true } [0x29, 0x80] [])
      (fun t => t.a == 0x80 && flags t == 0b110101 && t.cyclesElapsed == 2) = true := by decide

/-- V62 of 95_test_vectors.md. -/
theorem test_v62_ora_00 :
    ran (boot start [0x09, 0x00] [])
      (fun t => flags t == 0b000110 && t.cyclesElapsed == 2) = true := by decide

/-- V63 of 95_test_vectors.md. -/
theorem test_v63_ora_10 :
    ran (boot { start with a := 0x01 } [0x05, 0x10] [(0x0010, 0x80)])
      (fun t => t.a == 0x81 && flags t == 0b100100 && t.cyclesElapsed == 3) = true := by decide

/-- V64 of 95_test_vectors.md. -/
theorem test_v64_eor_ff :
    ran (boot { start with a := 0xFF } [0x49, 0xFF] [])
      (fun t => t.a == 0x00 && flags t == 0b000110 && t.cyclesElapsed == 2) = true := by decide

/-- V65 of 95_test_vectors.md. -/
theorem test_v65_eor_ff :
    ran (boot { start with a := 0x0F } [0x49, 0xFF] [])
      (fun t => t.a == 0xF0 && flags t == 0b100100 && t.cyclesElapsed == 2) = true := by decide

/-- V66 of 95_test_vectors.md. -/
theorem test_v66_bit_10 :
    ran (boot { start with a := 0x01 } [0x24, 0x10] [(0x0010, 0xC0)])
      (fun t => flags t == 0b110110 && t.cyclesElapsed == 3) = true := by decide

/-- V67 of 95_test_vectors.md. -/
theorem test_v67_bit_10 :
    ran (boot { start with a := 0x01, n := true, v := true } [0x24, 0x10] [(0x0010, 0x01)])
      (fun t => flags t == 0b000100 && t.cyclesElapsed == 3) = true := by decide

/-- V68 of 95_test_vectors.md. -/
theorem test_v68_bit_1234 :
    ran (boot { start with a := 0xFF } [0x2C, 0x34, 0x12] [(0x1234, 0x40)])
      (fun t => flags t == 0b010100 && t.cyclesElapsed == 4) = true := by decide

/-- V69 of 95_test_vectors.md. -/
theorem test_v69_asl_a :
    ran (boot { start with a := 0x80 } [0x0A] [])
      (fun t => t.a == 0x00 && flags t == 0b000111 && t.cyclesElapsed == 2) = true := by decide

/-- V70 of 95_test_vectors.md. -/
theorem test_v70_asl_a :
    ran (boot { start with a := 0x41, c := true } [0x0A] [])
      (fun t => t.a == 0x82 && flags t == 0b100100 && t.cyclesElapsed == 2) = true := by decide

/-- V71 of 95_test_vectors.md. -/
theorem test_v71_lsr_a :
    ran (boot { start with a := 0x01, n := true } [0x4A] [])
      (fun t => t.a == 0x00 && flags t == 0b000111 && t.cyclesElapsed == 2) = true := by decide

/-- V72 of 95_test_vectors.md. -/
theorem test_v72_lsr_a :
    ran (boot { start with a := 0xFE, c := true } [0x4A] [])
      (fun t => t.a == 0x7F && flags t == 0b000100 && t.cyclesElapsed == 2) = true := by decide

/-- V73 of 95_test_vectors.md. -/
theorem test_v73_rol_a :
    ran (boot { start with a := 0x80, c := true } [0x2A] [])
      (fun t => t.a == 0x01 && t.cyclesElapsed == 2) = true := by decide

/-- V74 of 95_test_vectors.md. -/
theorem test_v74_rol_a :
    ran (boot { start with a := 0x40 } [0x2A] [])
      (fun t => t.a == 0x80 && flags t == 0b100100 && t.cyclesElapsed == 2) = true := by decide

/-- V75 of 95_test_vectors.md. -/
theorem test_v75_ror_a :
    ran (boot { start with a := 0x01, c := true } [0x6A] [])
      (fun t => t.a == 0x80 && flags t == 0b100101 && t.cyclesElapsed == 2) = true := by decide

/-- V76 of 95_test_vectors.md. -/
theorem test_v76_ror_a :
    ran (boot { start with a := 0x01 } [0x6A] [])
      (fun t => t.a == 0x00 && flags t == 0b000111 && t.cyclesElapsed == 2) = true := by decide

/-- V77 of 95_test_vectors.md. -/
theorem test_v77_asl_10 :
    ran (boot { start with a := 0x33 } [0x06, 0x10] [(0x0010, 0xC0)])
      (fun t => flags t == 0b100101 && t.mem.read 0x0010 == 0x80 && t.cyclesElapsed == 5) = true := by decide

/-- V78 of 95_test_vectors.md. -/
theorem test_v78_lsr_12f0_x :
    ran (boot { start with x := 0x10 } [0x5E, 0xF0, 0x12] [(0x1300, 0x03)])
      (fun t => flags t == 0b000101 && t.mem.read 0x1300 == 0x01 && t.cyclesElapsed == 7) = true := by decide

/-- V79 of 95_test_vectors.md. -/
theorem test_v79_rol_f0_x :
    ran (boot { start with x := 0x20, c := true } [0x36, 0xF0] [(0x0010, 0x7F)])
      (fun t => flags t == 0b100100 && t.mem.read 0x0010 == 0xFF && t.cyclesElapsed == 6) = true := by decide

/-- V80 of 95_test_vectors.md. -/
theorem test_v80_ror_1234 :
    ran (boot { start with c := true } [0x6E, 0x34, 0x12] [])
      (fun t => flags t == 0b100100 && t.mem.read 0x1234 == 0x80 && t.cyclesElapsed == 6) = true := by decide

/-- V91 of 95_test_vectors.md. -/
theorem test_v91_cmp_11 :
    ran (boot { start with a := 0x10 } [0xC9, 0x11] [])
      (fun t => flags t == 0b100100 && t.cyclesElapsed == 2) = true := by decide

/-- V93 of 95_test_vectors.md. -/
theorem test_v93_cmp_01 :
    ran (boot { start with a := 0x80, v := true } [0xC9, 0x01] [])
      (fun t => flags t == 0b010101 && t.cyclesElapsed == 2) = true := by decide

/-- V96 of 95_test_vectors.md. -/
theorem test_v96_cpx_10 :
    ran (boot { start with x := 0x05 } [0xE4, 0x10] [(0x0010, 0x05)])
      (fun t => flags t == 0b000111 && t.cyclesElapsed == 3) = true := by decide

/-- V97 of 95_test_vectors.md. -/
theorem test_v97_cpy_1234 :
    ran (boot start [0xCC, 0x34, 0x12] [(0x1234, 0x01)])
      (fun t => flags t == 0b100100 && t.cyclesElapsed == 4) = true := by decide

/-- V98 of 95_test_vectors.md. -/
theorem test_v98_cmp_40_y :
    ran (boot { start with a := 0x50, y := 0x20 } [0xD1, 0x40] [(0x0040, 0xF0), (0x0041, 0x20), (0x2110, 0x30)])
      (fun t => flags t == 0b000101 && t.cyclesElapsed == 6) = true := by decide

/-- V100 of 95_test_vectors.md. -/
theorem test_v100_inc_10 :
    ran (boot { start with c := true } [0xE6, 0x10] [(0x0010, 0xFF)])
      (fun t => flags t == 0b000111 && t.mem.read 0x0010 == 0x00 && t.cyclesElapsed == 5) = true := by decide

/-- V101 of 95_test_vectors.md. -/
theorem test_v101_inc_10 :
    ran (boot start [0xE6, 0x10] [(0x0010, 0x7F)])
      (fun t => flags t == 0b100100 && t.mem.read 0x0010 == 0x80 && t.cyclesElapsed == 5) = true := by decide

/-- V102 of 95_test_vectors.md. -/
theorem test_v102_dec_10 :
    ran (boot start [0xC6, 0x10] [])
      (fun t => flags t == 0b100100 && t.mem.read 0x0010 == 0xFF && t.cyclesElapsed == 5) = true := by decide

/-- V103 of 95_test_vectors.md. -/
theorem test_v103_dec_1234 :
    ran (boot start [0xCE, 0x34, 0x12] [(0x1234, 0x01)])
      (fun t => flags t == 0b000110 && t.mem.read 0x1234 == 0x00 && t.cyclesElapsed == 6) = true := by decide

/-- V104 of 95_test_vectors.md. -/
theorem test_v104_inc_12f0_x :
    ran (boot { start with x := 0x10 } [0xFE, 0xF0, 0x12] [])
      (fun t => t.mem.read 0x1300 == 0x01 && t.cyclesElapsed == 7) = true := by decide

/-- V105 of 95_test_vectors.md. -/
theorem test_v105_dec_f0_x :
    ran (boot { start with x := 0x20 } [0xD6, 0xF0] [(0x0010, 0x80)])
      (fun t => t.mem.read 0x0010 == 0x7F && t.cyclesElapsed == 6) = true := by decide

/-- V106 of 95_test_vectors.md. -/
theorem test_v106_inx :
    ran (boot { start with x := 0xFF } [0xE8] [])
      (fun t => t.x == 0x00 && flags t == 0b000110 && t.cyclesElapsed == 2) = true := by decide

/-- V107 of 95_test_vectors.md. -/
theorem test_v107_dex :
    ran (boot start [0xCA] [])
      (fun t => t.x == 0xFF && flags t == 0b100100 && t.cyclesElapsed == 2) = true := by decide

/-- V108 of 95_test_vectors.md. -/
theorem test_v108_iny :
    ran (boot { start with y := 0x7F } [0xC8] [])
      (fun t => t.y == 0x80 && flags t == 0b100100 && t.cyclesElapsed == 2) = true := by decide

/-- V109 of 95_test_vectors.md. -/
theorem test_v109_dey :
    ran (boot { start with y := 0x01 } [0x88] [])
      (fun t => t.y == 0x00 && flags t == 0b000110 && t.cyclesElapsed == 2) = true := by decide

/-- V121 of 95_test_vectors.md. -/
theorem test_v121_bne_plus4_taken :
    ran (boot start [0xD0, 0x04] [])
      (fun t => t.pc == 0x0206 && t.cyclesElapsed == 3) = true := by decide

/-- V123 of 95_test_vectors.md. -/
theorem test_v123_bne_minus3_taken_page_crossed :
    ran (boot start [0xD0, 0xFD] [])
      (fun t => t.pc == 0x01FF && t.cyclesElapsed == 4) = true := by decide

/-- V124 of 95_test_vectors.md. -/
theorem test_v124_beq_plus2_at_02fc :
    ran (boot { start with pc := 0x02FC, z := true } [0xF0, 0x02] [])
      (fun t => t.pc == 0x0300 && t.cyclesElapsed == 4) = true := by decide

/-- V125 of 95_test_vectors.md. -/
theorem test_v125_beq_plus1_at_02fd :
    ran (boot { start with pc := 0x02FD, z := true } [0xF0, 0x01] [])
      (fun t => t.pc == 0x0300 && t.cyclesElapsed == 4) = true := by decide

/-- V126 of 95_test_vectors.md. -/
theorem test_v126_bcc_plus127 :
    ran (boot start [0x90, 0x7F] [])
      (fun t => t.pc == 0x0281 && t.cyclesElapsed == 3) = true := by decide

/-- V127 of 95_test_vectors.md. -/
theorem test_v127_bcs_minus128 :
    ran (boot { start with c := true } [0xB0, 0x80] [])
      (fun t => t.pc == 0x0182 && t.cyclesElapsed == 4) = true := by decide

/-- V128 of 95_test_vectors.md. -/
theorem test_v128_bmi_plus0 :
    ran (boot { start with n := true } [0x30, 0x00] [])
      (fun t => t.pc == 0x0202 && t.cyclesElapsed == 3) = true := by decide

/-- V129 of 95_test_vectors.md. -/
theorem test_v129_bpl_minus2_to_itself :
    ran (boot start [0x10, 0xFE] [])
      (fun t => t.pc == 0x0200 && t.cyclesElapsed == 3) = true := by decide

/-- V130 of 95_test_vectors.md. -/
theorem test_v130_bvc_plus16_not_taken :
    ran (boot { start with v := true } [0x50, 0x10] [])
      (fun t => t.pc == 0x0202 && t.cyclesElapsed == 2) = true := by decide

/-- V131 of 95_test_vectors.md. -/
theorem test_v131_bvs_plus16 :
    ran (boot { start with v := true } [0x70, 0x10] [])
      (fun t => t.pc == 0x0212 && t.cyclesElapsed == 3) = true := by decide

/-- V132 of 95_test_vectors.md. -/
theorem test_v132_bcc_plus2_at_fffd_wraps :
    ran (boot { start with pc := 0xFFFD } [0x90, 0x02] [])
      (fun t => t.pc == 0x0001 && t.cyclesElapsed == 4) = true := by decide

/-- V135 of 95_test_vectors.md. -/
theorem test_v135_bpl_minus2_at_02fe_to_itself_advanced_pc_0300 :
    ran (boot { start with pc := 0x02FE } [0x10, 0xFE] [])
      (fun t => t.pc == 0x02FE && t.cyclesElapsed == 4) = true := by decide

/-- V140 of 95_test_vectors.md. -/
theorem test_v140_jmp_1234 :
    ran (boot start [0x4C, 0x34, 0x12] [])
      (fun t => t.pc == 0x1234 && t.cyclesElapsed == 3) = true := by decide

/-- V142 of 95_test_vectors.md. -/
theorem test_v142_rts :
    ran (boot { start with s := 0xFB, pc := 0x1234 } [0x60] [(0x01FC, 0x02), (0x01FD, 0x02)])
      (fun t => t.s == 0xFD && t.pc == 0x0203 && t.cyclesElapsed == 6) = true := by decide

/-- V144 of 95_test_vectors.md. -/
theorem test_v144_jsr_0300_with_s_00_stack_wraps :
    ran (boot { start with s := 0x00 } [0x20, 0x00, 0x03] [])
      (fun t => t.s == 0xFE && t.pc == 0x0300 && t.cyclesElapsed == 6) = true := by decide

/-- V145 of 95_test_vectors.md. -/
theorem test_v145_rts_with_s_ff_stack_wraps :
    ran (boot { start with s := 0xFF } [0x60] [(0x0100, 0xFF), (0x0101, 0xFF)])
      (fun t => t.s == 0x01 && t.pc == 0x0000 && t.cyclesElapsed == 6) = true := by decide

/-- V146 of 95_test_vectors.md. -/
theorem test_v146_jsr_0300_at_02fe_return_address_crosses_page :
    ran (boot { start with pc := 0x02FE } [0x20, 0x00, 0x03] [])
      (fun t => t.s == 0xFB && t.pc == 0x0300 && t.cyclesElapsed == 6) = true := by decide

/-- V160 of 95_test_vectors.md. -/
theorem test_v160_pha :
    ran (boot { start with a := 0x42 } [0x48] [])
      (fun t => t.s == 0xFC && t.mem.read 0x01FD == 0x42 && t.cyclesElapsed == 3) = true := by decide

/-- V162 of 95_test_vectors.md. -/
theorem test_v162_pla :
    ran (boot { start with s := 0xFC } [0x68] [(0x01FD, 0x80)])
      (fun t => t.a == 0x80 && t.s == 0xFD && t.cyclesElapsed == 4) = true := by decide

/-- V163 of 95_test_vectors.md. -/
theorem test_v163_php :
    ran (boot { start with i := false } [0x08] [])
      (fun t => t.s == 0xFC && t.mem.read 0x01FD == 0x30 && t.cyclesElapsed == 3) = true := by decide

/-- V164 of 95_test_vectors.md. -/
theorem test_v164_php :
    ran (boot { start with n := true, v := true, d := true, z := true, c := true } [0x08] [])
      (fun t => t.s == 0xFC && t.mem.read 0x01FD == 0xFF && t.cyclesElapsed == 3) = true := by decide

/-- V165 of 95_test_vectors.md. -/
theorem test_v165_plp :
    ran (boot { start with s := 0xFC } [0x28] [(0x01FD, 0xFF)])
      (fun t => t.s == 0xFD && flags t == 0b111111 && t.cyclesElapsed == 4) = true := by decide

/-- V166 of 95_test_vectors.md. -/
theorem test_v166_plp :
    ran (boot { start with s := 0xFC, n := true, v := true, d := true, z := true, c := true } [0x28] [])
      (fun t => t.s == 0xFD && flags t == 0b000000 && t.cyclesElapsed == 4) = true := by decide

/-- V169 of 95_test_vectors.md. -/
theorem test_v169_tsx :
    ran (boot start [0xBA] [])
      (fun t => t.x == 0xFD && flags t == 0b100100 && t.cyclesElapsed == 2) = true := by decide

/-- V170 of 95_test_vectors.md. -/
theorem test_v170_tsx :
    ran (boot { start with x := 0x55, s := 0x00 } [0xBA] [])
      (fun t => t.x == 0x00 && flags t == 0b000110 && t.cyclesElapsed == 2) = true := by decide

/-- V171 of 95_test_vectors.md. -/
theorem test_v171_txs :
    ran (boot { start with n := true } [0x9A] [])
      (fun t => t.s == 0x00 && t.cyclesElapsed == 2) = true := by decide

/-- V172 of 95_test_vectors.md. -/
theorem test_v172_tax :
    ran (boot { start with a := 0x80 } [0xAA] [])
      (fun t => t.x == 0x80 && flags t == 0b100100 && t.cyclesElapsed == 2) = true := by decide

/-- V173 of 95_test_vectors.md. -/
theorem test_v173_tay :
    ran (boot { start with y := 0x01 } [0xA8] [])
      (fun t => t.y == 0x00 && flags t == 0b000110 && t.cyclesElapsed == 2) = true := by decide

/-- V174 of 95_test_vectors.md. -/
theorem test_v174_txa :
    ran (boot { start with x := 0x7F, n := true, z := true } [0x8A] [])
      (fun t => t.a == 0x7F && flags t == 0b000100 && t.cyclesElapsed == 2) = true := by decide

/-- V175 of 95_test_vectors.md. -/
theorem test_v175_tya :
    ran (boot { start with y := 0xFF } [0x98] [])
      (fun t => t.a == 0xFF && flags t == 0b100100 && t.cyclesElapsed == 2) = true := by decide

/-- V176 of 95_test_vectors.md. -/
theorem test_v176_pha_with_s_00 :
    ran (boot { start with a := 0x42, s := 0x00 } [0x48] [])
      (fun t => t.s == 0xFF && t.mem.read 0x0100 == 0x42 && t.cyclesElapsed == 3) = true := by decide

/-- V177 of 95_test_vectors.md. -/
theorem test_v177_pla_with_s_ff :
    ran (boot { start with s := 0xFF } [0x68] [(0x0100, 0x07)])
      (fun t => t.a == 0x07 && t.s == 0x00 && t.cyclesElapsed == 4) = true := by decide

/-- V190 of 95_test_vectors.md. -/
theorem test_v190_clc :
    ran (boot { start with n := true, v := true, d := true, z := true, c := true } [0x18] [])
      (fun t => flags t == 0b111110 && t.cyclesElapsed == 2) = true := by decide

/-- V191 of 95_test_vectors.md. -/
theorem test_v191_sec :
    ran (boot { start with i := false } [0x38] [])
      (fun t => flags t == 0b000001 && t.cyclesElapsed == 2) = true := by decide

/-- V192 of 95_test_vectors.md. -/
theorem test_v192_cli :
    ran (boot { start with n := true, v := true, d := true, z := true, c := true } [0x58] [])
      (fun t => flags t == 0b111011 && t.cyclesElapsed == 2) = true := by decide

/-- V193 of 95_test_vectors.md. -/
theorem test_v193_sei :
    ran (boot { start with i := false } [0x78] [])
      (fun t => flags t == 0b000100 && t.cyclesElapsed == 2) = true := by decide

/-- V194 of 95_test_vectors.md. -/
theorem test_v194_cld :
    ran (boot { start with n := true, v := true, d := true, z := true, c := true } [0xD8] [])
      (fun t => flags t == 0b110111 && t.cyclesElapsed == 2) = true := by decide

/-- V195 of 95_test_vectors.md. -/
theorem test_v195_sed :
    ran (boot { start with i := false } [0xF8] [])
      (fun t => flags t == 0b001000 && t.cyclesElapsed == 2) = true := by decide

/-- V196 of 95_test_vectors.md. -/
theorem test_v196_clv :
    ran (boot { start with n := true, v := true, d := true, z := true, c := true } [0xB8] [])
      (fun t => flags t == 0b101111 && t.cyclesElapsed == 2) = true := by decide

/-- V197 of 95_test_vectors.md. -/
theorem test_v197_nop :
    ran (boot { start with n := true, d := true, i := false, z := true } [0xEA] [])
      (fun t => t.cyclesElapsed == 2) = true := by decide

/-- V198 of 95_test_vectors.md. -/
theorem test_v198_brk :
    ran (boot { start with i := false, z := true, c := true } [0x00, 0xFF] [(0xFFFF, 0x80)])
      (fun t => t.pc == 0x8000 && t.mem.read 0x01FB == 0x33 && t.cyclesElapsed == 7) = true := by decide

/-- V199 of 95_test_vectors.md. -/
theorem test_v199_brk_with_d_1_i_1 :
    ran (boot { start with n := true, v := true, d := true } [0x00, 0xFF] [(0xFFFF, 0x80)])
      (fun t => t.pc == 0x8000 && t.mem.read 0x01FB == 0xFC && t.cyclesElapsed == 7) = true := by decide

/-- V201 of 95_test_vectors.md. -/
theorem test_v201_rti :
    ran (boot { start with s := 0xFA, pc := 0x8000 } [0x40] [(0x01FB, 0x33), (0x01FC, 0x02), (0x01FD, 0x02)])
      (fun t => t.s == 0xFD && t.pc == 0x0202 && t.cyclesElapsed == 6) = true := by decide

/-- V202 of 95_test_vectors.md. -/
theorem test_v202_rti :
    ran (boot { start with s := 0xFA, pc := 0x8000 } [0x40] [(0x01FB, 0xCF), (0x01FC, 0xFF), (0x01FD, 0xFF)])
      (fun t => t.s == 0xFD && t.pc == 0xFFFF && t.cyclesElapsed == 6) = true := by decide

/-- V203 of 95_test_vectors.md. -/
theorem test_v203_02_undoc_nop_true :
    ran (boot { start with n := true, d := true, i := false, z := true, undocNop := true } [0x02, 0x12] [])
      (fun t => t.pc == 0x0201 && t.cyclesElapsed == 2) = true := by decide

/-- V204 of 95_test_vectors.md. -/
theorem test_v204_ff_undoc_nop_true :
    ran (boot { start with undocNop := true } [0xFF, 0x12, 0x34] [])
      (fun t => t.pc == 0x0201 && t.cyclesElapsed == 2) = true := by decide

/-- V205 of 95_test_vectors.md. -/
theorem test_v205_02_undoc_nop_false :
    ran (boot { start with n := true, d := true, i := false, z := true } [0x02, 0x12] [])
      (fun t => t.pc == 0x0201 && t.rs == .stopped 0x02 && t.cyclesElapsed == 0) = true := by decide

/-- V206 of 95_test_vectors.md. -/
theorem test_v206_80_undoc_nop_false :
    ran (boot start [0x80, 0x12] [])
      (fun t => t.pc == 0x0201 && t.rs == .stopped 0x80 && t.cyclesElapsed == 0) = true := by decide

/-- V40 of 95_test_vectors.md. -/
theorem test_v40_adc_01 :
    ran (boot { start with a := 0x7F } [0x69, 0x01] [])
      (fun t => t.a == 0x80 && flags t == 0b110100 && t.cyclesElapsed == 2) = true := by decide

/-- V41 of 95_test_vectors.md. -/
theorem test_v41_adc_10 :
    ran (boot { start with a := 0xFF, c := true } [0x65, 0x10] [])
      (fun t => t.a == 0x00 && flags t == 0b000111 && t.cyclesElapsed == 3) = true := by decide

/-- V43 of 95_test_vectors.md. -/
theorem test_v43_adc_12f0_x_page_crossed :
    ran (boot { start with a := 0x01, x := 0x10 } [0x7D, 0xF0, 0x12] [(0x1300, 0x02)])
      (fun t => t.a == 0x03 && t.cyclesElapsed == 5) = true := by decide

/-- V44 of 95_test_vectors.md. -/
theorem test_v44_sbc_01 :
    ran (boot { start with a := 0x80, c := true } [0xE9, 0x01] [])
      (fun t => t.a == 0x7F && flags t == 0b010101 && t.cyclesElapsed == 2) = true := by decide

/-- V45 of 95_test_vectors.md. -/
theorem test_v45_sbc_01_borrow_in :
    ran (boot start [0xE9, 0x01] [])
      (fun t => t.a == 0xFE && flags t == 0b100100 && t.cyclesElapsed == 2) = true := by decide

/-- V47 of 95_test_vectors.md. -/
theorem test_v47_sbc_40_y :
    ran (boot { start with a := 0x10, y := 0x01, c := true } [0xF1, 0x40]
      [(0x0040, 0xFF), (0x0041, 0x20), (0x2100, 0x10)])
      (fun t => t.a == 0x00 && flags t == 0b000111 && t.cyclesElapsed == 6) = true := by decide

/-! ### Interrupts -/

/-- V220 of 95_test_vectors.md. -/
theorem test_v220_nmi_pending_i_1 :
    ran (boot { start with z := true, c := true, nmiPending := true } [0xEA] [(0xFFFB, 0x90)])
      (fun t => t.pc == 0x9000 && t.mem.read 0x01FB == 0x27 && t.cyclesElapsed == 7) = true := by decide

/-- V221 of 95_test_vectors.md. -/
theorem test_v221_nmi_pending_i_0 :
    ran (boot { start with n := true, i := false, nmiPending := true } [0xEA] [(0xFFFB, 0x90)])
      (fun t => t.pc == 0x9000 && t.mem.read 0x01FB == 0xA0 && t.cyclesElapsed == 7) = true := by decide

/-- V222 of 95_test_vectors.md. -/
theorem test_v222_irq_asserted_i_0 :
    ran (boot { start with v := true, i := false, c := true, irqLine := true } [0xEA] [(0xFFFF, 0x80)])
      (fun t => t.pc == 0x8000 && t.mem.read 0x01FB == 0x61 && t.cyclesElapsed == 7) = true := by decide

/-- V223 of 95_test_vectors.md. -/
theorem test_v223_irq_asserted_i_1_deferred :
    ran (boot { start with irqLine := true } [0xEA] [])
      (fun t => t.cyclesElapsed == 2) = true := by decide

/-- V224 of 95_test_vectors.md. -/
theorem test_v224_nmi_and_irq_together_i_0_step_1 :
    ran (boot { start with i := false, nmiPending := true, irqLine := true } [0xEA] [(0xFFFB, 0x90)])
      (fun t => t.pc == 0x9000 && t.mem.read 0x01FB == 0x20 && t.cyclesElapsed == 7) = true := by decide

/-- V228 of 95_test_vectors.md. -/
theorem test_v228_irq_with_s_01_stack_wraps :
    ran (boot { start with s := 0x01, i := false, irqLine := true } [0xEA] [(0xFFFF, 0x80)])
      (fun t => t.pc == 0x8000 && t.mem.read 0x01FF == 0x20 && t.cyclesElapsed == 7) = true := by decide

/-- V229 of 95_test_vectors.md. -/
theorem test_v229_nmi_at_pc_ffff :
    ran (boot { start with pc := 0xFFFF, nmiPending := true } [0xEA] [(0xFFFB, 0x90)])
      (fun t => t.pc == 0x9000 && t.mem.read 0x01FB == 0x24 && t.cyclesElapsed == 7) = true := by decide

/-! ### The ADC and SBC tables -/

/-- Rows of the table "Binary ADC" of 95_test_vectors.md section 2.11. -/
theorem test_binary_adc :
    (row (adc false 0x00 0x00 true) 0x01 false false false false &&
    row (adc false 0x01 0x01 false) 0x02 false false false false &&
    row (adc false 0x7F 0x01 false) 0x80 true true false false &&
    row (adc false 0x7F 0x00 true) 0x80 true true false false &&
    row (adc false 0x80 0x80 false) 0x00 false true true true &&
    row (adc false 0x80 0xFF false) 0x7F false true false true &&
    row (adc false 0xFF 0x01 false) 0x00 false false true true &&
    row (adc false 0xFF 0x00 true) 0x00 false false true true &&
    row (adc false 0xFF 0xFF true) 0xFF true false false true &&
    row (adc false 0x50 0x50 false) 0xA0 true true false false) = true := by decide

/-- Rows of the table "Binary SBC" of 95_test_vectors.md section 2.11. -/
theorem test_binary_sbc :
    (row (sbc false 0x00 0x00 false) 0xFF true false false false &&
    row (sbc false 0x00 0x01 true) 0xFF true false false false &&
    row (sbc false 0x01 0x01 true) 0x00 false false true true &&
    row (sbc false 0x01 0x01 false) 0xFF true false false false &&
    row (sbc false 0x80 0x01 true) 0x7F false true false true &&
    row (sbc false 0x7F 0xFF true) 0x80 true true false false &&
    row (sbc false 0x80 0x00 false) 0x7F false true false true &&
    row (sbc false 0x00 0x80 true) 0x80 true true false false &&
    row (sbc false 0x50 0xF0 true) 0x60 false false false false &&
    row (sbc false 0x50 0xB0 true) 0xA0 true true false false) = true := by decide

/-- Rows of the table "Decimal ADC" of 95_test_vectors.md section 2.11. -/
theorem test_decimal_adc :
    (row (adc true 0x09 0x01 false) 0x10 false false false false &&
    row (adc true 0x09 0x00 true) 0x10 false false false false &&
    row (adc true 0x19 0x01 false) 0x20 false false false false &&
    row (adc true 0x99 0x01 false) 0x00 false false true true &&
    row (adc true 0x99 0x99 true) 0x99 true true false true &&
    row (adc true 0x99 0x00 true) 0x00 false false true true &&
    row (adc true 0x50 0x50 false) 0x00 false true true true &&
    row (adc true 0x49 0x50 true) 0x00 false true true true &&
    row (adc true 0x79 0x00 true) 0x80 true false false false &&
    row (adc true 0x12 0x34 false) 0x46 false false false false) = true := by decide

/-- Rows of the table "Decimal ADC, invalid BCD digits" of 95_test_vectors.md section 2.11. -/
theorem test_decimal_adc_invalid_bcd :
    (row (adc true 0x0A 0x00 false) 0x10 false false false false &&
    row (adc true 0x0F 0x0F true) 0x15 false false false false &&
    row (adc true 0xFF 0xFF true) 0x55 false false false true &&
    row (adc true 0xA0 0x00 false) 0x00 false false true true &&
    row (adc true 0x9A 0x01 false) 0x01 false false false true &&
    row (adc true 0x1F 0x01 false) 0x26 false false false false) = true := by decide

/-- Rows of the table "Decimal SBC" of 95_test_vectors.md section 2.11. -/
theorem test_decimal_sbc :
    (row (sbc true 0x12 0x21 true) 0x91 true false false false &&
    row (sbc true 0x00 0x00 false) 0x99 true false false false &&
    row (sbc true 0x00 0x00 true) 0x00 false false true true &&
    row (sbc true 0x00 0x01 true) 0x99 true false false false &&
    row (sbc true 0x10 0x01 true) 0x09 false false false true &&
    row (sbc true 0x10 0x01 false) 0x08 false false false true &&
    row (sbc true 0x99 0x99 true) 0x00 false false true true &&
    row (sbc true 0x99 0x99 false) 0x99 true false false false &&
    row (sbc true 0x50 0x25 true) 0x25 false false false true &&
    row (sbc true 0x46 0x12 true) 0x34 false false false true) = true := by decide

/-- Rows of the table "Decimal SBC, invalid BCD digits" of 95_test_vectors.md section 2.11. -/
theorem test_decimal_sbc_invalid_bcd :
    (row (sbc true 0x00 0x0F true) 0x9B true false false false &&
    row (sbc true 0x0A 0x00 true) 0x0A false false false true &&
    row (sbc true 0xFF 0xFF true) 0x00 false false true true &&
    row (sbc true 0x1A 0x0B false) 0x08 false false false true) = true := by decide

/-! ### Well-formedness, undocumented bytes, truncated bytes -/

/-- `undoc` with a documented opcode is ill formed (R97). -/
theorem test_wf_refuses_undoc_of_a_documented_opcode : (Instr.undoc 0xA9).wf = false := by decide

/-- R97: both ends of the list. -/
theorem test_wf_accepts_undoc : ((Instr.undoc 0x02).wf && (Instr.undoc 0xFF).wf) = true := by decide

/-- R97: the 105 bytes decode as one-byte undocumented instructions; with R96's 151 they are all 256. -/
theorem test_decode_undocumented :
    (undocumentedBytes.all fun op => decodesTo [op] (.undoc op)) = true ∧ undocumentedBytes.length + 151 = 256 := by
  decide

/-- R91: an instruction cut short is refused by name. -/
theorem test_decode_refuses_truncated :
    decode [0xAD, 0x34] = .error (.operandMissing 0xAD) ∧ decode [] = .error .noOpcode := ⟨rfl, rfl⟩

/-! ### The host's words, from the opcode table's own numbering -/

/-- `9D F0 12`: the opcode in bits 7..0, `lo` in 15..8, `hi` in 23..16. -/
theorem test_table_word_three_bytes : decodeTableWord 24 0x12F09D = some (.staAbx 0x12F0) := by decide

/-- A word given no operand bits reads operand bytes of zero. -/
theorem test_table_word_opcode_only : decodeTableWord 8 0x6C = some (.jmpInd 0x0000) := by decide

/-- The first instruction after reset is the one placed there. -/
theorem test_fetch_word_runs_first :
    ran (State.reset.withFetchWord 16 0x80A9) (fun t => t.a == 0x80 && t.pc == 0x0002 && t.cyc == 9) = true := by decide

/-! ### Reset, the stuck state, the host's events and the outputs -/

/-- T2 of 95_test_vectors.md, from Stopped with an NMI latched (S-RST row 3). -/
theorem test_reset_event :
    ∃ t, deliver .reset { boot start [] [(0xFFFD, 0x02)] with rs := .stopped 0x02, nmiPending := true } = .next t ∧
      t.s = 0xFD ∧ t.pc = 0x0200 ∧ t.cyc = 7 ∧ t.rs = .running ∧ t.nmiPending = false :=
  ⟨_, rfl, by decide⟩

/-- State.reset's memory is canonical and P reads bit 5 as 1 (R29). -/
theorem test_reset_state : State.reset.mem.wf = true ∧ State.reset.observe.p = 0x24 := by decide

/-- R316: a STEP in Stopped does not move the hardware. -/
theorem test_step_in_stopped : step { start with rs := .stopped 0x02, nmiPending := true } = .fault (.stopped 0x02) := rfl

/-- S-NMI2: two edges before a boundary set the latch once. -/
theorem test_two_nmi_edges : deliver .nmiEdge (result (deliver .nmiEdge start)) = deliver .nmiEdge start := rfl

/-- R43: `stop` and `stop_opcode`. -/
theorem test_outputs :
    ({ start with rs := .stopped 0x80 } : State).stop = true ∧
      ({ start with rs := .stopped 0x80 } : State).stopOpcode = some 0x80 ∧ start.stop = false := by decide

/-! ### Memory in canonical form -/

theorem test_memory_write_of_the_unlisted_byte_removes_the_cell :
    Memory.write (Memory.write (Memory.write [] 0x10 0x55) 0x08 0x66) 0x10 0x00 = [(0x08, 0x66)] := by decide

/-! ### The host's answers (R61, D17) -/

/-- `start` over the general host. -/
def hosted : State := { start with host := .general }

/-- The general host's byte is the oracle's, not the byte last written. -/
theorem test_general_host_answers_a_load :
    (result (exec (.ldaZp 0x10) { hosted with mem := [(0x10, 0x55)] })).a =
      Config.hostAnswer [(0x10, 0x55)] hosted.port 0x0010 := rfl

/-- The second pointer byte is answered after the read of the first: the access history grows by it. -/
theorem test_general_host_sees_the_reads_before :
    (result (exec (.jmpInd 0x10FF) { hosted with port := [] })).pc =
      pairAddr (Config.hostAnswer [] [⟨.read, 0x10FF, Config.hostAnswer [] [] 0x10FF⟩] 0x1000)
        (Config.hostAnswer [] [] 0x10FF) := rfl

/-- A write is always accepted, and the host decides what a later read there returns. -/
theorem test_general_host_decides_what_a_read_after_a_write_returns :
    let t := result (exec (.staZp 0x10) { hosted with a := 0x55, port := [] })
    t.port = [⟨.write, 0x0010, 0x55⟩] ∧
      t.answer 0x0010 = Config.hostAnswer [(0x10, 0x55)] [⟨.write, 0x0010, 0x55⟩] 0x0010 ∧
      ({ t with host := .plainRam } : State).answer 0x0010 = 0x55 := ⟨rfl, rfl, rfl⟩

/-- The transactions of one step are the history of the next. -/
theorem test_history_passes_from_step_to_step :
    let s := boot start [0x85, 0x10] []
    (result (step s)).past = s.past ++ s.port ∧ (result (step s)).port.length = 3 := ⟨rfl, rfl⟩

/-! ### Witnesses: the hypotheses of each statement, met together -/

/-- A program of one instruction at PC 0xFFFF, so that its second byte lies at 0x0000. -/
def wrapping : State := boot { start with pc := 0xFFFF } [0xA9, 0x01] []

theorem test_witness_DecodeOfEncodeIsTheInstruction :
    ((Instr.undoc 0x02).wf && (Instr.staAbx 0xFFFF).wf && (Instr.brk).wf) = true := by decide

theorem test_witness_EncodeOfDecodeIsTheWords :
    decode [0x6C, 0xFF, 0x10, 0xEA] = .ok (.jmpInd 0x10FF, [0xEA]) := rfl

theorem test_witness_StepRunsTheDecodedInstruction :
    wrapping.rs = .running ∧ wrapping.nmiPending = false ∧ (wrapping.irqLine = false ∨ wrapping.i = true) ∧
      decode ((readsAt (begun wrapping) [wrapping.pc.toNat, (wrapping.pc.toNat + 1) % 65536,
        (wrapping.pc.toNat + 2) % 65536]).map (·.data)) = .ok (.ldaImm 0x01, [0x00]) :=
  ⟨rfl, rfl, .inl rfl, rfl⟩

/-- The other way to meet it: irq_line asserted and I = 1. -/
theorem test_witness_StepRunsTheDecodedInstruction_masked :
    let s := { wrapping with irqLine := true }
    s.rs = .running ∧ s.nmiPending = false ∧ (s.irqLine = false ∨ s.i = true) ∧
      decode ((readsAt (begun s) [s.pc.toNat, (s.pc.toNat + 1) % 65536, (s.pc.toNat + 2) % 65536]).map (·.data)) =
        .ok (.ldaImm 0x01, [0x00]) :=
  ⟨rfl, rfl, .inr rfl, rfl⟩

theorem test_witness_PendingNmiIsServicedWhateverIIs :
    ({ start with nmiPending := true } : State).rs = .running ∧ ({ start with nmiPending := true } : State).i = true :=
  ⟨rfl, rfl⟩

theorem test_witness_UnmaskedIrqIsServiced :
    let s := { start with irqLine := true, i := false }
    s.rs = .running ∧ s.nmiPending = false ∧ s.irqLine = true ∧ s.i = false := ⟨rfl, rfl, rfl, rfl⟩

theorem test_witness_MaskedIrqLineHasNoEffect :
    ∃ t, ({ start with irqLine := true } : State).i = true ∧ step { start with irqLine := true } = .next t :=
  ⟨_, rfl, rfl⟩

theorem test_witness_StoppedStepIsStuck : ∃ op, ({ start with rs := .stopped 0x02 } : State).rs = .stopped op := ⟨0x02, rfl⟩

theorem test_witness_EveryInstructionAnswersANextState : start.rs = .running := rfl

theorem test_witness_ResetStateIsAResetSequenceResult :
    let s := { start with a := 0x55, mem := [], past := [], port := [], rs := .stopped 0x02, nmiPending := true }
    s.host = .plainRam ∧ s.mem = [] ∧ s.past = [] ∧ s.port = [] ∧ s.irqLine = false ∧ s.undocNop = false ∧
      s.draws = 0 := ⟨rfl, rfl, rfl, rfl, rfl, rfl, rfl⟩

theorem test_witness_LoadsTakeTheOperandAndSetNZ :
    (Instr.ldaIny 0xFF).mnemonic = .lda ∧ (Instr.ldxAby 0xFFFF).mnemonic = .ldx ∧ (Instr.ldyImm 0x00).mnemonic = .ldy :=
  ⟨rfl, rfl, rfl⟩

theorem test_witness_StoresWriteTheRegisterAtEa :
    (Instr.staInx 0xFF).mnemonic = .sta ∧ (Instr.stxZpy 0xFF).mnemonic = .stx ∧ (Instr.styAbs 0x0000).mnemonic = .sty :=
  ⟨rfl, rfl, rfl⟩

theorem test_witness_AdcBinaryAddsWithCarry : (Instr.adcAbx 0xFFFF).mnemonic = .adc ∧ start.d = false := ⟨rfl, rfl⟩

theorem test_witness_AdcDecimalAddsDigitByDigit :
    (Instr.adcImm 0xFF).mnemonic = .adc ∧ ({ start with d := true } : State).d = true := ⟨rfl, rfl⟩

theorem test_witness_DecimalAddOfValidBcdIsTheTwoDigitSum :
    validBcd 0x99 = true ∧ validBcd 0x00 = true ∧ validBcd 0x9A = false ∧ validBcd 0xA9 = false := by decide

theorem test_witness_SbcBinarySubtractsWithBorrow : (Instr.sbcIny 0xFF).mnemonic = .sbc ∧ start.d = false := ⟨rfl, rfl⟩

theorem test_witness_SbcDecimalSubtractsDigitByDigit :
    (Instr.sbcImm 0xFF).mnemonic = .sbc ∧ ({ start with d := true } : State).d = true := ⟨rfl, rfl⟩

theorem test_witness_DecimalSubtractOfValidBcdIsTheTwoDigitDifference :
    validBcd 0x00 = true ∧ validBcd 0x99 = true := by decide

theorem test_witness_LogicCombinesBitByBit :
    (Instr.andImm 0x80).mnemonic = .and ∧ (Instr.oraInx 0xFF).mnemonic = .ora ∧ (Instr.eorAby 0xFFFF).mnemonic = .eor :=
  ⟨rfl, rfl, rfl⟩

theorem test_witness_BitTestsMemoryAgainstA : (Instr.bitAbs 0xFFFF).mnemonic = .bit := rfl

theorem test_witness_ShiftsAndRotatesMoveOneBit :
    (Instr.aslAcc).mnemonic = .asl ∧ (Instr.aslAbx 0xFFFF).mnemonic = .asl ∧
      (Instr.lsrAcc).mnemonic = .lsr ∧ (Instr.lsrZpx 0xFF).mnemonic = .lsr ∧
      (Instr.rolAcc).mnemonic = .rol ∧ (Instr.rolZp 0xFF).mnemonic = .rol ∧
      (Instr.rorAcc).mnemonic = .ror ∧ (Instr.rorAbs 0xFFFF).mnemonic = .ror :=
  ⟨rfl, rfl, rfl, rfl, rfl, rfl, rfl, rfl⟩

theorem test_witness_ComparesSetFlagsOnly :
    (Instr.cmpIny 0xFF).mnemonic = .cmp ∧ (Instr.cpxImm 0xFF).mnemonic = .cpx ∧ (Instr.cpyAbs 0xFFFF).mnemonic = .cpy :=
  ⟨rfl, rfl, rfl⟩

theorem test_witness_IncAndDecStepMemory :
    (Instr.incAbx 0xFFFF).mnemonic = .inc ∧ (Instr.decZpx 0xFF).mnemonic = .dec := ⟨rfl, rfl⟩

theorem test_witness_NopOnlySpendsCycles :
    let s := boot { start with pc := 0xFFFF } [0xEA] []
    s.rs = .running ∧ s.nmiPending = false ∧ (s.irqLine = false ∨ s.i = true) ∧ answered (begun s) s.pc.toNat = 0xEA :=
  ⟨rfl, rfl, .inl rfl, rfl⟩

theorem test_witness_UndocumentedOpcodeByTheStrap :
    ({ start with undocNop := true } : State).undocNop = true ∧ start.undocNop = false := ⟨rfl, rfl⟩

/-- A JSR at S = 0x00, where the stack wraps, and a later state with another PC and A. -/
theorem test_witness_JsrThenRtsReturns :
    let s := { start with s := 0x00 }
    let t := result (exec (.jsr 0x1234) s)
    let t' := { t with a := 0x77, pc := 0x9001 }
    s.mem.wf = true ∧ exec (.jsr 0x1234) s = .next t ∧ t'.s = t.s ∧
      stackByte t' 1 = stackHeld t 1 ∧ stackByte t' 2 = stackHeld t 2 := ⟨rfl, rfl, rfl, rfl, rfl⟩

theorem test_witness_PhpThenPlpRestoresTheFlags :
    let s := { start with s := 0x00, n := true, c := true }
    let t := result (exec .php s)
    let t' := { t with n := false, c := false, pc := 0x9001 }
    s.mem.wf = true ∧ exec .php s = .next t ∧ t'.s = t.s ∧ stackByte t' 1 = stackHeld t 1 := ⟨rfl, rfl, rfl, rfl⟩

theorem test_witness_RtiUndoesEveryHandlerEntry_brk :
    let s := { start with s := 0x01 }
    let t := result (exec .brk s)
    let t' := { t with x := 0x77, d := true }
    s.mem.wf = true ∧ exec .brk s = .next t ∧ t'.s = t.s ∧ stackByte t' 1 = stackHeld t 1 ∧
      stackByte t' 2 = stackHeld t 2 ∧ stackByte t' 3 = stackHeld t 3 := ⟨rfl, rfl, rfl, rfl, rfl, rfl⟩

theorem test_witness_RtiUndoesEveryHandlerEntry_nmi :
    let s := { start with nmiPending := true }
    let t := result (step s)
    let t' := { t with x := 0x77 }
    s.mem.wf = true ∧ s.rs = .running ∧ (s.nmiPending = true ∨ (s.irqLine = true ∧ s.i = false)) ∧ step s = .next t ∧
      t'.s = t.s ∧ stackByte t' 1 = stackHeld t 1 ∧ stackByte t' 2 = stackHeld t 2 ∧ stackByte t' 3 = stackHeld t 3 :=
  ⟨rfl, rfl, .inl rfl, rfl, rfl, rfl, rfl, rfl⟩

theorem test_witness_RtiUndoesEveryHandlerEntry_irq :
    let s := { start with irqLine := true, i := false }
    s.mem.wf = true ∧ s.rs = .running ∧ (s.nmiPending = true ∨ (s.irqLine = true ∧ s.i = false)) :=
  ⟨rfl, rfl, .inr ⟨rfl, rfl⟩⟩

/-- A step that goes on, and one that stops the core. -/
theorem test_witness_StepKeepsTheInvariant :
    wrapping.inv = true ∧ step wrapping = .next (result (step wrapping)) ∧
      (boot start [0x02] []).inv = true ∧ step (boot start [0x02] []) = .next (result (step (boot start [0x02] []))) :=
  ⟨by decide, rfl, by decide, rfl⟩

/-- Every event, and RESET in Stopped. -/
theorem test_witness_EveryHostEventKeepsTheInvariant :
    let s := { start with rs := .stopped 0x02 }
    s.inv = true ∧ (∃ t, deliver .reset s = .next t) ∧ (∃ t, deliver .nmiEdge s = .next t) ∧
      (∃ t, deliver (.irqLine true) s = .next t) ∧ (∃ t, deliver (.memory 0xFFFF 0x00) s = .next t) ∧
      start.inv = true ∧ ∃ t, deliver .step start = .next t :=
  ⟨by decide, ⟨_, rfl⟩, ⟨_, rfl⟩, ⟨_, rfl⟩, ⟨_, rfl⟩, by decide, ⟨_, rfl⟩⟩

/-- NOP is in none of the six lists. -/
theorem test_witness_FlagsChangeOnlyWhereTheListSays :
    (∃ t, exec .nop start = .next t) ∧
      Mnemonic.nop ∉ [.lda, .ldx, .ldy, .adc, .sbc, .and, .ora, .eor, .asl, .lsr, .rol, .ror, .cmp, .cpx, .cpy,
        .inc, .dec, .inx, .dex, .iny, .dey, .pla, .tax, .tay, .txa, .tya, .tsx, .bit, .plp, .rti] ∧
      Mnemonic.nop ∉ [.adc, .sbc, .bit, .clv, .plp, .rti] ∧ Mnemonic.nop ∉ [.sed, .cld, .plp, .rti] ∧
      Mnemonic.nop ∉ [.sei, .cli, .plp, .rti, .brk] ∧
      Mnemonic.nop ∉ [.adc, .sbc, .cmp, .cpx, .cpy, .asl, .lsr, .rol, .ror, .sec, .clc, .plp, .rti] :=
  ⟨⟨_, rfl⟩, by decide⟩

theorem test_witness_RegistersChangeOnlyWhereTheListSays :
    (∃ t, exec (.aslZp 0xFF) start = .next t) ∧
      (Instr.aslZp 0xFF).mnemonic ∈ [.asl, .lsr, .rol, .ror] ∧ (Instr.aslZp 0xFF).mode ≠ .acc ∧
      (∃ t, exec .nop start = .next t) ∧
      Mnemonic.nop ∉ [.lda, .adc, .sbc, .and, .ora, .eor, .pla, .txa, .tya, .asl, .lsr, .rol, .ror] ∧
      Mnemonic.nop ∉ [.ldx, .tax, .tsx, .inx, .dex] ∧ Mnemonic.nop ∉ [.ldy, .tay, .iny, .dey] ∧
      Mnemonic.nop ∉ [.pha, .pla, .php, .plp, .txs, .jsr, .rts, .brk, .rti] ∧
      Mnemonic.nop ∉ [.bpl, .bmi, .bvc, .bvs, .bcc, .bcs, .bne, .beq, .jmp, .jsr, .rts, .brk, .rti] :=
  ⟨⟨_, rfl⟩, by decide, by decide, ⟨_, rfl⟩, by decide⟩

/-- The byte next to the one stored, at the top of the address space; and an instruction that stores nothing. -/
theorem test_witness_StoresReachOnlyTheComputedCells :
    (∃ t, exec (.staAbx 0xFFFF) start = .next t) ∧ storedTo (.staAbx 0xFFFF) start = [0xFFFF] ∧
      (∀ w ∈ storedTo (.staAbx 0xFFFF) start, 0x0000 ≠ w.toNat) ∧
      (∃ t, exec (.ldaZp 0x00) start = .next t) ∧ storedTo (.ldaZp 0x00) start = [] := by
  have h : storedTo (.staAbx 0xFFFF) start = [0xFFFF] := rfl
  refine ⟨⟨_, rfl⟩, h, fun w hw => ?_, ⟨_, rfl⟩, rfl⟩
  rw [h, List.mem_singleton] at hw
  subst hw
  decide

/-- A store to 0x0010 leaves 0x0011 unnamed. -/
theorem test_witness_MemoryChangesOnlyThroughThePort :
    let s := boot { start with a := 0x55 } [0x85, 0x10] []
    let t := result (step s)
    step s = .next t ∧ ∀ q ∈ t.port, q.direction = .write → q.addr.toNat ≠ 0x0011 := ⟨rfl, by decide⟩

/-- Plain RAM: the opcode fetch of an INC, whose only write is at 0x0010. -/
theorem test_witness_EveryReadCarriesTheHostsAnswer_plainRam :
    let s := boot start [0xE6, 0x10] []
    let t := result (step s)
    step s = .next t ∧ s.host = .plainRam ∧
      t.port = [] ++ ⟨.read, 0x0200, 0xE6⟩ :: [⟨.read, 0x0201, 0x10⟩, ⟨.read, 0x0010, 0x00⟩, ⟨.write, 0x0010, 0x01⟩] ∧
      ⟨.read, 0x0200, 0xE6⟩ ∈ t.port ∧ ∀ p ∈ t.port, p.direction = .write → p.addr ≠ 0x0200 :=
  ⟨rfl, rfl, rfl, by decide, by decide⟩

/-- The general host: the first vector byte of an NMI service, read after the three pushes. -/
theorem test_witness_EveryReadCarriesTheHostsAnswer_general :
    let s := { start with host := .general, nmiPending := true }
    let t := result (step s)
    ∃ after q, step s = .next t ∧ s.host = .general ∧ t.port = t.port.take 3 ++ q :: after ∧ q.direction = .read ∧
      q.addr = 0xFFFA := ⟨_, _, rfl, rfl, rfl, rfl, rfl⟩

/-- BRK makes six transactions. -/
theorem test_witness_StepMakesAtMostSixAccesses :
    let s := boot start [0x00] []
    step s = .next (result (step s)) ∧ (result (step s)).port.length = 6 := ⟨rfl, by decide⟩

theorem test_witness_EveryStepAddsItsReportedCycles : step wrapping = .next (result (step wrapping)) := rfl

/-- Both ends of the range: CLC and BRK. -/
theorem test_witness_DocumentedInstructionsTakeTwoToSevenCycles :
    (Instr.clc).mnemonic ≠ .undoc ∧ (Instr.brk).mnemonic ≠ .undoc ∧
      (result (exec .clc start)).cyclesElapsed = 2 ∧ (result (exec .brk start)).cyclesElapsed = 7 ∧
      exec .clc start = .next (result (exec .clc start)) ∧ exec .brk start = .next (result (exec .brk start)) :=
  ⟨by decide, by decide, by decide, by decide, rfl, rfl⟩

theorem test_witness_NoStepReadsTheCycleCounter : step wrapping = .next (result (step wrapping)) := rfl

theorem test_witness_DecimalFlagAffectsOnlyAdcAndSbc :
    (Instr.cmpImm 0x99).mnemonic ∉ [Mnemonic.adc, .sbc, .php, .brk] ∧
      exec (.cmpImm 0x99) start = .next (result (exec (.cmpImm 0x99) start)) := ⟨by decide, rfl⟩

/-- A step that services an NMI. -/
theorem test_witness_StepLeavesTheHostsInputsAlone :
    let s := { start with nmiPending := true }
    step s = .next (result (step s)) := rfl

theorem test_witness_OnlyUndocumentedOpcodesStopTheCore :
    let s := boot start [0x80] []
    step s = .next (result (step s)) ∧ (result (step s)).rs = .stopped 0x80 := ⟨rfl, by decide⟩

end Sys2Proof.Tests
end

/-! The status byte and its flags (10_state.md R30, R31): Pack as bits appended one by one, Unpack as bits on numbers. -/

namespace Sys2Proof.Spec

open Machine

theorem flagNat_eq_toNat (b : Bool) : flagNat b = b.toNat := by cases b <;> rfl

/-- `Pack(b)` appends its bits below N one after the other (R30). -/
theorem pack_eq_concat (s : State) (b : Bool) :
    s.pack b =
      (((((((BitVec.ofBool s.n).concat s.v).concat true).concat b).concat s.d).concat s.i).concat s.z).concat s.c := rfl

/-- `Pack(b)` is the weighted sum of its bits (R30). -/
theorem pack_toNat (s : State) (b : Bool) :
    (s.pack b).toNat =
      flagNat s.n * 128 + flagNat s.v * 64 + 32 + flagNat b * 16 + flagNat s.d * 8 + flagNat s.i * 4 +
        flagNat s.z * 2 + flagNat s.c := by
  simp only [pack_eq_concat, BitVec.toNat_concat, BitVec.toNat_ofBool, flagNat_eq_toNat, Bool.toNat_true]
  omega

theorem pack_eq_packed (s : State) (b : Bool) : s.pack b = packed s b := by
  rw [packed, ← pack_toNat, BitVec.ofNat_toNat, BitVec.setWidth_eq]

/-- A bit on numbers is the bit-vector's bit. -/
theorem bit_eq_getLsbD (p : Byte) (k : Nat) : bit p k = p.getLsbD k :=
  Nat.testBit_eq_decide_div_mod_eq.symm

theorem unpack_eq_unpacked (s : State) (p : Byte) : s.unpack p = unpacked s p := by
  simp only [State.unpack, unpacked, bit_eq_getLsbD]

/-- The consequence R31 draws: bits 5 and 4 have no storage, and the six flags come back. -/
theorem unpack_pack (s : State) (b : Bool) : s.unpack (s.pack b) = s := by
  simp [State.unpack, pack_eq_concat]

/-- Settles O42: Pack by the value of its appended bits, Unpack bit by bit, and their composition. -/
theorem packAndUnpackTheStatusByte : Obligations.PackAndUnpackTheStatusByte :=
  fun s b p => ⟨pack_eq_packed s b, unpack_eq_unpacked s p, unpack_pack s b⟩

end Sys2Proof.Spec

/-! What an opcode byte's format asks for (30_encoding.md R91, R92, R95): the instruction and its length, said once for
the decoder, which reads a list, and for the fetch, which reads the port. -/

namespace Sys2Proof

/-- The number of bytes of an instruction of a format (R91). -/
def Format.length : Format → Nat
  | .f1 _ => 1
  | .f2 _ => 2
  | .f3 _ => 3

/-- The instruction of a format when `b1` and `b2` follow the opcode byte; a byte that is not asked for is ignored
(R91). -/
def Format.fill : Format → Byte → Byte → Instr
  | .f1 i, _, _ => i
  | .f2 k, b1, _ => k b1
  | .f3 k, b1, b2 => k (pairAddr b2 b1)

/-- Every entry of the opcode matrix has the length of its instruction's mode (R92, R95): row by row, and inside a row
column by column. -/
theorem mode_length_fill_formatOf (op b1 b2 : Byte) :
    ((formatOf op).fill b1 b2).mode.name.length = (formatOf op).length := by
  unfold formatOf
  split
  all_goals
    delta opcodeRow0 opcodeRow1 opcodeRow2 opcodeRow3 opcodeRow4 opcodeRow5 opcodeRow6 opcodeRow7 opcodeRow8 opcodeRow9
      opcodeRowA opcodeRowB opcodeRowC opcodeRowD opcodeRowE opcodeRowF
    split <;> rfl

/-- The decoder, given an opcode byte and two more, fills the opcode's format with them. -/
theorem decode_three (op b1 b2 : Byte) :
    decode [op, b1, b2] = .ok ((formatOf op).fill b1 b2, [op, b1, b2].drop (formatOf op).length) := by
  cases h : formatOf op <;> simp [decode, h, Format.fill, Format.length]

end Sys2Proof

/-! Fetching at PC (10_state.md R26, 40_addressing.md R120): the machine's fetch in the spec's numbers, and the step that
runs what it brings (60_exceptions.md R300). -/

namespace Sys2Proof.Spec

open Machine

/-- The addresses of the first `n` bytes from PC on, wrapping (R26, R120). -/
def fetchCells (s : State) (n : Nat) : List Nat := (List.range n).map fun k => (s.pc.toNat + k) % 65536

/-- The state after fetching `n` bytes: PC past them, their reads on the port (R26). -/
def afterFetch (s : State) (n : Nat) : State :=
  { s with
    pc := BitVec.ofNat 16 (s.pc.toNat + n)
    port := s.port ++ readsAt s (fetchCells s n) }

/-- The byte that fetch number `k` brings, counted from 0. -/
def codeByte (s : State) (k : Nat) : Byte := (afterFetch s k).answer (afterFetch s k).pc

theorem afterFetch_zero (s : State) : afterFetch s 0 = s := by
  simp [afterFetch, fetchCells, readsAt]

theorem fetchCells_succ (s : State) (n : Nat) :
    fetchCells s (n + 1) = fetchCells s n ++ [(afterFetch s n).pc.toNat] := by
  simp [fetchCells, afterFetch, List.range_succ]

theorem readsAt_fetchCells_succ (s : State) (n : Nat) :
    readsAt s (fetchCells s (n + 1)) =
      readsAt s (fetchCells s n) ++ [⟨.read, (afterFetch s n).pc, codeByte s n⟩] := by
  have h : readsAt (afterReadsAt s (fetchCells s n)) [(afterFetch s n).pc.toNat] =
      readsAt (afterFetch s n) [(afterFetch s n).pc.toNat] := readsAt_congr rfl rfl rfl _
  rw [fetchCells_succ, readsAt_append, h, readsAt_one]
  rfl

/-- One more fetch is one more read at PC, and PC advanced (R26). -/
theorem afterFetch_succ (s : State) (n : Nat) :
    afterFetch s (n + 1) = { (afterFetch s n).afterRead (afterFetch s n).pc with pc := (afterFetch s n).pc + 1 } := by
  have hpc : BitVec.ofNat 16 (s.pc.toNat + (n + 1)) = (afterFetch s n).pc + 1 := BitVec.ofNat_add _ 1
  rw [afterFetch, readsAt_fetchCells_succ, hpc, ← List.append_assoc]
  rfl

/-- The machine's fetch of byte number `n`. -/
theorem fetchByte_afterFetch (s : State) (n : Nat) :
    (afterFetch s n).fetchByte = (codeByte s n, afterFetch s (n + 1)) := by
  rw [fetchByte_eq, afterFetch_succ, codeByte]

/-- The first fetch. -/
theorem fetchByte_eq_afterFetch (s : State) : s.fetchByte = (codeByte s 0, afterFetch s 1) := by
  simpa only [afterFetch_zero] using fetchByte_afterFetch s 0

/-- The bytes the reads from PC on bring are those the fetches bring. -/
theorem readsAt_fetchCells_data (s : State) (n : Nat) :
    (readsAt s (fetchCells s n)).map (·.data) = (List.range n).map (codeByte s) := by
  induction n with
  | zero => rfl
  | succ n ih => simp [readsAt_fetchCells_succ, List.range_succ, ih]

/-- The machine's fetch fills the opcode's format with the bytes that follow and fetches no others (R91, R120). -/
theorem fetchInstr_eq_fill (s : State) :
    s.fetchInstr =
      ((formatOf (codeByte s 0)).fill (codeByte s 1) (codeByte s 2), afterFetch s (formatOf (codeByte s 0)).length) := by
  simp only [State.fetchInstr, fetchByte_eq_afterFetch s, fetchByte_afterFetch]
  cases formatOf (codeByte s 0) <;> rfl

/-- The machine fetches the instruction that the bytes from PC on decode to, and exactly its bytes (R25). -/
theorem fetchInstr_of_decode {s : State} {i : Instr} {rest : List Byte}
    (h : decode [codeByte s 0, codeByte s 1, codeByte s 2] = .ok (i, rest)) :
    s.fetchInstr = (i, afterFetch s i.mode.name.length) := by
  rw [decode_three] at h
  cases h
  rw [fetchInstr_eq_fill, mode_length_fill_formatOf]

/-- In Running with no interrupt to take, a step runs one instruction (R300). -/
theorem step_eq_exec {s : State} (hr : s.rs = .running) (hn : s.nmiPending = false) (hq : s.takesIrq = false) :
    step s = exec s.beginStep.fetchInstr.1 s.beginStep.fetchInstr.2 := by
  simp [step, stepEvent, hr, hn, hq]

/-- Settles O6: the step runs what it fetches, and the fetch follows the decoder. -/
theorem stepRunsTheDecodedInstruction : Obligations.StepRunsTheDecodedInstruction := by
  intro s i rest hr hn hirq hdec
  have hq : s.takesIrq = false := by
    rcases hirq with h | h <;> simp [State.takesIrq, h]
  have hcells : fetchCells (begun s) 3 = [s.pc.toNat, (s.pc.toNat + 1) % 65536, (s.pc.toNat + 2) % 65536] := by
    simp [fetchCells, begun, List.range_succ, Nat.mod_eq_of_lt s.pc.isLt]
  rw [← hcells, readsAt_fetchCells_data] at hdec
  rw [step_eq_exec hr hn hq, ← begun_eq, fetchInstr_of_decode hdec]
  rfl

end Sys2Proof.Spec

/-! The resolver in the spec's numbers (40_addressing.md R124 to R136): the effective address, the page crossing and the
pointer reads of every mode. -/

namespace Sys2Proof.Spec

open Machine

@[simp] theorem zeroPage_toNat (b : Byte) : (zeroPage b).toNat = b.toNat := by
  simp [zeroPage, pairAddr_toNat]

@[simp] theorem indexed_toNat (base : Addr) (idx : Byte) :
    (indexed base idx).toNat = (base.toNat + idx.toNat) % 65536 := by
  simp [indexed, BitVec.toNat_add]

theorem pageDiffers_eq (w w' : Addr) : pageDiffers w w' = (w.toNat / 256 != w'.toNat / 256) := by
  rw [pageDiffers, Bool.eq_iff_iff]
  simp only [bne_iff_ne, ne_eq, ← BitVec.toNat_inj, hiByte_toNat]

/-- The second pointer cell of Indirect stays in the page of the first (R132). -/
theorem pageSuccessor_toNat (w : Addr) : (pairAddr (hiByte w) (loByte w + 1)).toNat = pageSuccessor w.toNat := by
  simp [pageSuccessor, pairAddr_toNat, hiByte_toNat, BitVec.toNat_add, loByte_toNat]

/-- The machine's word of two reads, as a number (R66). -/
theorem readPair_fst_toNat (s : State) (w w' : Addr) : (s.readPair w w').1.toNat = wordAt s w.toNat w'.toNat := by
  rw [readPair_eq, wordAt_eq]

theorem afterReadsAt_append (s : State) (ks ls : List Nat) :
    afterReadsAt s (ks ++ ls) = afterReadsAt (afterReadsAt s ks) ls := by
  simp [afterReadsAt, readsAt_append]

theorem readPair_snd (s : State) (w w' : Addr) : (s.readPair w w').2 = afterReadsAt s [w.toNat, w'.toNat] := by
  rw [readPair_eq, afterReadsAt, pairReads_eq]

theorem zeroPagePointer_fst_toNat (s : State) (z : Byte) : (s.zeroPagePointer z).1.toNat = pointer s z.toNat := by
  simp [State.zeroPagePointer, readPair_fst_toNat, pointer, BitVec.toNat_add]

theorem zeroPagePointer_snd (s : State) (z : Byte) :
    (s.zeroPagePointer z).2 = afterReadsAt s [z.toNat, (z.toNat + 1) % 256] := by
  simp [State.zeroPagePointer, readPair_snd, BitVec.toNat_add]

/-- The effective address of every mode, as a number (R124 to R134). -/
theorem resolve_ea_toNat (s : State) (m : MemMode) : (s.resolve m).ea.toNat = effectiveAddress s m := by
  cases m with
  | zp b => exact zeroPage_toNat b
  | zpx b => simp [State.resolve, effectiveAddress, BitVec.toNat_add]
  | zpy b => simp [State.resolve, effectiveAddress, BitVec.toNat_add]
  | abs w => rfl
  | abx w => exact indexed_toNat w s.x
  | aby w => exact indexed_toNat w s.y
  | ind w => rw [effectiveAddress, ← pageSuccessor_toNat, ← readPair_fst_toNat, State.resolve]
  | inx b => simp [State.resolve, effectiveAddress, zeroPagePointer_fst_toNat, BitVec.toNat_add]
  | iny b => simp [State.resolve, State.indexedFrom, effectiveAddress, zeroPagePointer_fst_toNat]

/-- A page is crossed where the number of the page changes (R129, R130, R134). -/
theorem resolve_crossed (s : State) (m : MemMode) : (s.resolve m).crossed = crossed s m := by
  cases m with
  | abx w => simp [State.resolve, State.indexedFrom, crossed, effectiveAddress, pageDiffers_eq]
  | aby w => simp [State.resolve, State.indexedFrom, crossed, effectiveAddress, pageDiffers_eq]
  | iny b =>
    simp [State.resolve, State.indexedFrom, crossed, effectiveAddress, pageDiffers_eq, zeroPagePointer_fst_toNat]
  | _ => rfl

/-- The resolver makes the pointer reads and changes nothing else (R135, R136). -/
theorem resolve_after_eq_afterReadsAt (s : State) (m : MemMode) :
    (s.resolve m).after = afterReadsAt s (pointerCells s m) := by
  cases m with
  | ind w => rw [pointerCells, ← pageSuccessor_toNat, ← readPair_snd, State.resolve]
  | inx b => simp [State.resolve, zeroPagePointer_snd, BitVec.toNat_add, pointerCells]
  | iny b => exact zeroPagePointer_snd s b
  | _ => simp [State.resolve, State.indexedFrom, afterReadsAt, readsAt, pointerCells]

theorem ofNat_effectiveAddress (s : State) (m : MemMode) :
    BitVec.ofNat 16 (effectiveAddress s m) = (s.resolve m).ea := by
  rw [← resolve_ea_toNat, BitVec.ofNat_toNat, BitVec.setWidth_eq]

end Sys2Proof.Spec

/-! The instruction shapes in the spec's numbers (41_load_store.md): what a read-type and a write-type row of the opcode
table come to as one of the listed encodings. -/

namespace Sys2Proof.Spec

open Machine

/-- `SetNZ` on the number of the byte (R33). -/
theorem setNZ_eq_withNZ (t : State) (r : Byte) : t.setNZ r = withNZ t r.toNat := by
  have hn : r.getLsbD 7 = decide (r.toNat ≥ 128) := BitVec.msb_eq_decide r
  have hz : (r == 0) = decide (r.toNat = 0) := by
    rw [Bool.eq_iff_iff, beq_iff_eq, decide_eq_true_eq, ← BitVec.toNat_inj]
    rfl
  rw [State.setNZ, withNZ, hn, hz]

/-- The addressing mode that an operand's source is. -/
def sourceMode : Source → Mode
  | .imm v => .imm v
  | .mem m => .mem m

theorem operand_value (s : State) (src : Source) : (s.operand src).value = operandByte s (sourceMode src) := by
  cases src with
  | imm v => rfl
  | mem m =>
    rw [operand_mem, sourceMode, operandByte, ← resolve_ea_toNat, ← resolve_after_eq_afterReadsAt, answered_eq]

theorem operand_after (s : State) (src : Source) : (s.operand src).after = afterReads s (sourceMode src) := by
  cases src with
  | imm v => simp [State.operand, sourceMode, afterReads, operandReads]
  | mem m =>
    calc (s.operand (.mem m)).after
      _ = (afterReadsAt s (pointerCells s m)).afterRead (s.resolve m).ea := by
        rw [operand_mem, resolve_after_eq_afterReadsAt]
      _ = afterReadsAt s (pointerCells s m ++ [effectiveAddress s m]) := by
        rw [afterReadsAt_append, ← resolve_ea_toNat, afterReadsAt_one]

/-- The penalty of an encoding (R351, R352). -/
def Row.penalty (r : Row) : Penalty :=
  match r.paged with
  | true => .page
  | false => .none

/-- The cycles of a read-type instruction are those of its encoding (R350 to R352). -/
theorem operand_cycles (s : State) (src : Source) (r : Row) :
    r.base + r.penalty.cycles (s.operand src).crossed = r.cycles s (sourceMode src) := by
  obtain ⟨op, name, base, paged⟩ := r
  cases paged with
  | false => rfl
  | true =>
    cases src with
    | imm v => rfl
    | mem m =>
      simp [Row.penalty, Row.cycles, Penalty.cycles, sourceMode, pageCycles, operand_mem, resolve_crossed]

/-- A read-type instruction in the spec's numbers: the action on the operand byte after the operand's reads, and the
encoding's cycles. -/
theorem readType_eq_spend (s : State) (src : Source) (r : Row) (act : State → Byte → State) :
    s.readType src r.base r.penalty act =
      spend (r.cycles s (sourceMode src)) (act (afterReads s (sourceMode src)) (operandByte s (sourceMode src))) := by
  rw [readType_eq, operand_value, operand_after, operand_cycles]
  rfl

/-- A write-type instruction in the spec's numbers: the store at the effective address, and a fixed number of cycles. -/
theorem writeType_eq_spend (s : State) (m : MemMode) (base : Nat) (v : Byte) :
    s.writeType m base v = spend base (stored s m v) := by
  simp [writeType_eq, resolve_after_eq_afterReadsAt, memWrite_eq, resolve_ea_toNat, stored, ofNat_effectiveAddress,
    pointerReads, afterReadsAt, spend, State.finish]

/-- `i` is one of the listed encodings, of a read-type instruction that acts on its operand by `act`. -/
def ReadsAs (i : Instr) (rows : List Row) (act : State → Byte → State) : Prop :=
  ∃ r ∈ rows, ∃ src : Source, i.opcode = r.opcode ∧ i.mode = sourceMode src ∧ i.mode.name = r.mode ∧
    ∀ s, exec i s = .next (s.readType src r.base r.penalty act)

/-- `i` is one of the listed encodings, of a write-type instruction that stores `reg`; its cycles are fixed. -/
def WritesAs (i : Instr) (rows : List Row) (reg : State → Byte) : Prop :=
  ∃ r ∈ rows, ∃ m : MemMode, i.opcode = r.opcode ∧ i.mode = .mem m ∧ i.mode.name = r.mode ∧ r.paged = false ∧
    ∀ s, exec i s = .next (s.writeType m r.base (reg s))

/-- Entry `k` of the list is the encoding of `i`. -/
theorem ReadsAs.row {i : Instr} {rows : List Row} {act : State → Byte → State} (k : Nat) (src : Source)
    (hk : k < rows.length := by decide)
    (hop : i.opcode = rows[k].opcode := by rfl)
    (hmode : i.mode = sourceMode src := by rfl)
    (hname : i.mode.name = rows[k].mode := by rfl)
    (hexec : ∀ s, exec i s = .next (s.readType src rows[k].base rows[k].penalty act) := by exact fun _ => rfl) :
    ReadsAs i rows act :=
  ⟨rows[k], List.getElem_mem hk, src, hop, hmode, hname, hexec⟩

/-- Entry `k` of the list is the encoding of `i`. -/
theorem WritesAs.row {i : Instr} {rows : List Row} {reg : State → Byte} (k : Nat) (m : MemMode)
    (hk : k < rows.length := by decide)
    (hop : i.opcode = rows[k].opcode := by rfl)
    (hmode : i.mode = .mem m := by rfl)
    (hname : i.mode.name = rows[k].mode := by rfl)
    (hfixed : rows[k].paged = false := by rfl)
    (hexec : ∀ s, exec i s = .next (s.writeType m rows[k].base (reg s)) := by exact fun _ => rfl) :
    WritesAs i rows reg :=
  ⟨rows[k], List.getElem_mem hk, m, hop, hmode, hname, hfixed, hexec⟩

theorem ReadsAs.runsAs {i : Instr} {rows : List Row} {act : State → Byte → State} (h : ReadsAs i rows act) (s : State) :
    RunsAs i s rows (act (afterReads s i.mode) (operandByte s i.mode)) := by
  obtain ⟨r, hr, src, hop, hmode, hname, hexec⟩ := h
  refine ⟨r, hr, hop, hname, ?_⟩
  rw [hexec, readType_eq_spend, hmode]

theorem WritesAs.runsAs {i : Instr} {rows : List Row} {reg : State → Byte} (h : WritesAs i rows reg) (s : State) :
    ∃ m, i.mode = .mem m ∧ RunsAs i s rows (stored s m (reg s)) := by
  obtain ⟨r, hr, m, hop, hmode, hname, hfixed, hexec⟩ := h
  refine ⟨m, hmode, r, hr, hop, hname, ?_⟩
  simp [hexec, writeType_eq_spend, Row.cycles, hfixed]

end Sys2Proof.Spec

/-! Load and store (41_load_store.md R150 to R155): every encoding of the six mnemonics, then the two statements. -/

namespace Sys2Proof.Spec

open Machine

theorem loadA_eq_withNZ (t : State) (m : Byte) : t.loadA m = { withNZ t m.toNat with a := m } := by
  rw [State.loadA, setNZ_eq_withNZ]
  rfl

theorem loadX_eq_withNZ (t : State) (m : Byte) : t.loadX m = { withNZ t m.toNat with x := m } := by
  rw [State.loadX, setNZ_eq_withNZ]
  rfl

theorem loadY_eq_withNZ (t : State) (m : Byte) : t.loadY m = { withNZ t m.toNat with y := m } := by
  rw [State.loadY, setNZ_eq_withNZ]
  rfl

/-- The encodings of LDA (R150). -/
theorem lda_readsAs {i : Instr} (h : i.mnemonic = .lda) :
    ReadsAs i
      [⟨0xA9, .imm, 2, false⟩, ⟨0xA5, .zp, 3, false⟩, ⟨0xB5, .zpx, 4, false⟩, ⟨0xAD, .abs, 4, false⟩,
       ⟨0xBD, .abx, 4, true⟩, ⟨0xB9, .aby, 4, true⟩, ⟨0xA1, .inx, 6, false⟩, ⟨0xB1, .iny, 5, true⟩]
      State.loadA := by
  cases i <;> cases h
  case ldaImm v => exact .row 0 (.imm v)
  case ldaZp b => exact .row 1 (.mem (.zp b))
  case ldaZpx b => exact .row 2 (.mem (.zpx b))
  case ldaAbs w => exact .row 3 (.mem (.abs w))
  case ldaAbx w => exact .row 4 (.mem (.abx w))
  case ldaAby w => exact .row 5 (.mem (.aby w))
  case ldaInx b => exact .row 6 (.mem (.inx b))
  case ldaIny b => exact .row 7 (.mem (.iny b))

/-- The encodings of LDX (R151). -/
theorem ldx_readsAs {i : Instr} (h : i.mnemonic = .ldx) :
    ReadsAs i
      [⟨0xA2, .imm, 2, false⟩, ⟨0xA6, .zp, 3, false⟩, ⟨0xB6, .zpy, 4, false⟩, ⟨0xAE, .abs, 4, false⟩,
       ⟨0xBE, .aby, 4, true⟩]
      State.loadX := by
  cases i <;> cases h
  case ldxImm v => exact .row 0 (.imm v)
  case ldxZp b => exact .row 1 (.mem (.zp b))
  case ldxZpy b => exact .row 2 (.mem (.zpy b))
  case ldxAbs w => exact .row 3 (.mem (.abs w))
  case ldxAby w => exact .row 4 (.mem (.aby w))

/-- The encodings of LDY (R152). -/
theorem ldy_readsAs {i : Instr} (h : i.mnemonic = .ldy) :
    ReadsAs i
      [⟨0xA0, .imm, 2, false⟩, ⟨0xA4, .zp, 3, false⟩, ⟨0xB4, .zpx, 4, false⟩, ⟨0xAC, .abs, 4, false⟩,
       ⟨0xBC, .abx, 4, true⟩]
      State.loadY := by
  cases i <;> cases h
  case ldyImm v => exact .row 0 (.imm v)
  case ldyZp b => exact .row 1 (.mem (.zp b))
  case ldyZpx b => exact .row 2 (.mem (.zpx b))
  case ldyAbs w => exact .row 3 (.mem (.abs w))
  case ldyAbx w => exact .row 4 (.mem (.abx w))

/-- The encodings of STA (R153). -/
theorem sta_writesAs {i : Instr} (h : i.mnemonic = .sta) :
    WritesAs i
      [⟨0x85, .zp, 3, false⟩, ⟨0x95, .zpx, 4, false⟩, ⟨0x8D, .abs, 4, false⟩, ⟨0x9D, .abx, 5, false⟩,
       ⟨0x99, .aby, 5, false⟩, ⟨0x81, .inx, 6, false⟩, ⟨0x91, .iny, 6, false⟩]
      State.a := by
  cases i <;> cases h
  case staZp b => exact .row 0 (.zp b)
  case staZpx b => exact .row 1 (.zpx b)
  case staAbs w => exact .row 2 (.abs w)
  case staAbx w => exact .row 3 (.abx w)
  case staAby w => exact .row 4 (.aby w)
  case staInx b => exact .row 5 (.inx b)
  case staIny b => exact .row 6 (.iny b)

/-- The encodings of STX (R154). -/
theorem stx_writesAs {i : Instr} (h : i.mnemonic = .stx) :
    WritesAs i [⟨0x86, .zp, 3, false⟩, ⟨0x96, .zpy, 4, false⟩, ⟨0x8E, .abs, 4, false⟩] State.x := by
  cases i <;> cases h
  case stxZp b => exact .row 0 (.zp b)
  case stxZpy b => exact .row 1 (.zpy b)
  case stxAbs w => exact .row 2 (.abs w)

/-- The encodings of STY (R155). -/
theorem sty_writesAs {i : Instr} (h : i.mnemonic = .sty) :
    WritesAs i [⟨0x84, .zp, 3, false⟩, ⟨0x94, .zpx, 4, false⟩, ⟨0x8C, .abs, 4, false⟩] State.y := by
  cases i <;> cases h
  case styZp b => exact .row 0 (.zp b)
  case styZpx b => exact .row 1 (.zpx b)
  case styAbs w => exact .row 2 (.abs w)

/-- Settles O15: each encoding is a read-type row, and the load is SetNZ with the register written. -/
theorem loadsTakeTheOperandAndSetNZ : Obligations.LoadsTakeTheOperandAndSetNZ := by
  refine fun i s => ⟨fun h => ?_, fun h => ?_, fun h => ?_⟩
  · exact loadA_eq_withNZ _ _ ▸ (lda_readsAs h).runsAs s
  · exact loadX_eq_withNZ _ _ ▸ (ldx_readsAs h).runsAs s
  · exact loadY_eq_withNZ _ _ ▸ (ldy_readsAs h).runsAs s

/-- Settles O16: each encoding is a write-type row with a fixed count. -/
theorem storesWriteTheRegisterAtEa : Obligations.StoresWriteTheRegisterAtEa :=
  fun _ s =>
    ⟨fun h => (sta_writesAs h).runsAs s, fun h => (stx_writesAs h).runsAs s, fun h => (sty_writesAs h).runsAs s⟩

end Sys2Proof.Spec

/-! Arithmetic (42_arithmetic.md R170, R171): what ADC and SBC share, the ALU result taken into the state and V as the
signed range; then the encodings of ADC, and its binary mode. -/

namespace Sys2Proof.Spec

open Machine

/-- A takes the ALU result, and the four flags follow, N and Z on the number of the byte. -/
theorem applyAlu_eq_withNZ (t : State) (r : AluResult) :
    t.applyAlu r = { withNZ t r.value.toNat with a := r.value, v := r.overflow, c := r.carry } := by
  rw [State.applyAlu, setNZ_eq_withNZ]
  rfl

theorem and_0x80_ne_zero (x : Byte) : (x &&& 0x80 != 0) = x.msb := by
  have h : x &&& 0x80 = if x.msb then BitVec.twoPow 8 7 else 0 := BitVec.and_twoPow x 7
  rw [h]
  cases x.msb <;> rfl

/-- R171 in words: A and m have the same bit 7, and that of the sum differs from it. -/
theorem signedOverflow_eq_msb (a m : Byte) (sum : Nat) :
    signedOverflow a m sum = (a.msb == m.msb && a.msb != (BitVec.ofNat 8 sum).msb) := by
  rw [signedOverflow, and_0x80_ne_zero]
  simp only [BitVec.msb_and, BitVec.msb_not, BitVec.msb_xor]
  cases a.msb <;> cases m.msb <;> rfl

/-- The formula for V is the signed range, whatever the carry in (R171). -/
theorem signedOverflow_binarySum (a m : Byte) (c : Bool) :
    signedOverflow a m (binarySum a m c) = outOfRange (a.toInt + m.toInt + flagNat c) := by
  have hc : flagNat c ≤ 1 := by cases c <;> decide
  have ha := a.isLt
  have hm := m.isLt
  rw [signedOverflow_eq_msb, outOfRange, Bool.eq_iff_iff]
  simp only [BitVec.msb_eq_decide, BitVec.toInt_eq_toNat_cond, BitVec.toNat_ofNat, binarySum, Bool.and_eq_true,
    beq_iff_eq, bne_iff_ne, ne_eq, decide_eq_decide, decide_eq_true_eq]
  omega

/-- The encodings of ADC (R170). -/
theorem adc_readsAs {i : Instr} (h : i.mnemonic = .adc) :
    ReadsAs i
      [⟨0x69, .imm, 2, false⟩, ⟨0x65, .zp, 3, false⟩, ⟨0x75, .zpx, 4, false⟩, ⟨0x6D, .abs, 4, false⟩,
       ⟨0x7D, .abx, 4, true⟩, ⟨0x79, .aby, 4, true⟩, ⟨0x61, .inx, 6, false⟩, ⟨0x71, .iny, 5, true⟩]
      State.addWithCarry := by
  cases i <;> cases h
  case adcImm v => exact .row 0 (.imm v)
  case adcZp b => exact .row 1 (.mem (.zp b))
  case adcZpx b => exact .row 2 (.mem (.zpx b))
  case adcAbs w => exact .row 3 (.mem (.abs w))
  case adcAbx w => exact .row 4 (.mem (.abx w))
  case adcAby w => exact .row 5 (.mem (.aby w))
  case adcInx b => exact .row 6 (.mem (.inx b))
  case adcIny b => exact .row 7 (.mem (.iny b))

/-- ADC in binary mode, on numbers (R171). -/
theorem addWithCarry_binary (t : State) (m : Byte) (hd : t.d = false) :
    t.addWithCarry m =
      { withNZ t ((t.a.toNat + m.toNat + flagNat t.c) % 256) with
        a := BitVec.ofNat 8 (t.a.toNat + m.toNat + flagNat t.c)
        v := outOfRange (t.a.toInt + m.toInt + flagNat t.c)
        c := decide (t.a.toNat + m.toNat + flagNat t.c > 255) } := by
  have hadc : adc t.d t.a m t.c = adcBinary t.a m t.c := by simp [adc, hd]
  rw [State.addWithCarry, applyAlu_eq_withNZ, hadc, ← signedOverflow_binarySum]
  simp only [adcBinary, BitVec.toNat_ofNat]
  rfl

/-- Settles O17: each encoding is a read-type row, and the operand's reads leave A, C and D as they were. -/
theorem adcBinaryAddsWithCarry : Obligations.AdcBinaryAddsWithCarry := by
  intro i s h hd
  have hrun := (adc_readsAs h).runsAs s
  rw [addWithCarry_binary (afterReads s i.mode) (operandByte s i.mode) hd] at hrun
  exact hrun

end Sys2Proof.Spec

/-! Bitwise logic (43_logic_shift.md R190 to R192): AND, ORA and EOR are loads of A with A and the operand combined,
so one lemma says all three; then their encodings and the statement. -/

namespace Sys2Proof.Spec

open Machine

theorem andA_eq_loadA (t : State) (m : Byte) : t.andA m = t.loadA (t.a &&& m) := rfl

theorem orA_eq_loadA (t : State) (m : Byte) : t.orA m = t.loadA (t.a ||| m) := rfl

theorem eorA_eq_loadA (t : State) (m : Byte) : t.eorA m = t.loadA (t.a ^^^ m) := rfl

/-- A read-type instruction that loads A with `op` of A and its operand, where `op` acts on each bit as `f`. -/
theorem ReadsAs.combinesBits {i : Instr} {rows : List Row} {act : State → Byte → State} {op : Byte → Byte → Byte}
    {f : Bool → Bool → Bool} (h : ReadsAs i rows act) (hact : ∀ t m, act t m = t.loadA (op t.a m))
    (hbit : ∀ a m k, (op a m).getLsbD k = f (a.getLsbD k) (m.getLsbD k)) (s : State) :
    ∃ r : Byte, (∀ k < 8, r.getLsbD k = f (s.a.getLsbD k) ((operandByte s i.mode).getLsbD k)) ∧
      RunsAs i s rows { withNZ (afterReads s i.mode) r.toNat with a := r } := by
  refine ⟨op s.a (operandByte s i.mode), fun k _ => hbit _ _ k, ?_⟩
  have hrun := h.runsAs s
  rw [hact, loadA_eq_withNZ] at hrun
  exact hrun

/-- The encodings of AND (R190). -/
theorem and_readsAs {i : Instr} (h : i.mnemonic = .and) :
    ReadsAs i
      [⟨0x29, .imm, 2, false⟩, ⟨0x25, .zp, 3, false⟩, ⟨0x35, .zpx, 4, false⟩, ⟨0x2D, .abs, 4, false⟩,
       ⟨0x3D, .abx, 4, true⟩, ⟨0x39, .aby, 4, true⟩, ⟨0x21, .inx, 6, false⟩, ⟨0x31, .iny, 5, true⟩]
      State.andA := by
  cases i <;> cases h
  case andImm v => exact .row 0 (.imm v)
  case andZp b => exact .row 1 (.mem (.zp b))
  case andZpx b => exact .row 2 (.mem (.zpx b))
  case andAbs w => exact .row 3 (.mem (.abs w))
  case andAbx w => exact .row 4 (.mem (.abx w))
  case andAby w => exact .row 5 (.mem (.aby w))
  case andInx b => exact .row 6 (.mem (.inx b))
  case andIny b => exact .row 7 (.mem (.iny b))

/-- The encodings of ORA (R191). -/
theorem ora_readsAs {i : Instr} (h : i.mnemonic = .ora) :
    ReadsAs i
      [⟨0x09, .imm, 2, false⟩, ⟨0x05, .zp, 3, false⟩, ⟨0x15, .zpx, 4, false⟩, ⟨0x0D, .abs, 4, false⟩,
       ⟨0x1D, .abx, 4, true⟩, ⟨0x19, .aby, 4, true⟩, ⟨0x01, .inx, 6, false⟩, ⟨0x11, .iny, 5, true⟩]
      State.orA := by
  cases i <;> cases h
  case oraImm v => exact .row 0 (.imm v)
  case oraZp b => exact .row 1 (.mem (.zp b))
  case oraZpx b => exact .row 2 (.mem (.zpx b))
  case oraAbs w => exact .row 3 (.mem (.abs w))
  case oraAbx w => exact .row 4 (.mem (.abx w))
  case oraAby w => exact .row 5 (.mem (.aby w))
  case oraInx b => exact .row 6 (.mem (.inx b))
  case oraIny b => exact .row 7 (.mem (.iny b))

/-- The encodings of EOR (R192). -/
theorem eor_readsAs {i : Instr} (h : i.mnemonic = .eor) :
    ReadsAs i
      [⟨0x49, .imm, 2, false⟩, ⟨0x45, .zp, 3, false⟩, ⟨0x55, .zpx, 4, false⟩, ⟨0x4D, .abs, 4, false⟩,
       ⟨0x5D, .abx, 4, true⟩, ⟨0x59, .aby, 4, true⟩, ⟨0x41, .inx, 6, false⟩, ⟨0x51, .iny, 5, true⟩]
      State.eorA := by
  cases i <;> cases h
  case eorImm v => exact .row 0 (.imm v)
  case eorZp b => exact .row 1 (.mem (.zp b))
  case eorZpx b => exact .row 2 (.mem (.zpx b))
  case eorAbs w => exact .row 3 (.mem (.abs w))
  case eorAbx w => exact .row 4 (.mem (.abx w))
  case eorAby w => exact .row 5 (.mem (.aby w))
  case eorInx b => exact .row 6 (.mem (.inx b))
  case eorIny b => exact .row 7 (.mem (.iny b))

/-- Settles O23: each encoding is a read-type row, and the bitwise operation acts on each bit on its own. -/
theorem logicCombinesBitByBit : Obligations.LogicCombinesBitByBit := by
  refine fun i s => ⟨fun h => ?_, fun h => ?_, fun h => ?_⟩
  · exact (and_readsAs h).combinesBits andA_eq_loadA (fun _ _ _ => BitVec.getLsbD_and) s
  · exact (ora_readsAs h).combinesBits orA_eq_loadA (fun _ _ _ => BitVec.getLsbD_or) s
  · exact (eor_readsAs h).combinesBits eorA_eq_loadA (fun _ _ _ => BitVec.getLsbD_xor) s

end Sys2Proof.Spec

/-! Compare (44_compare.md R210 to R213): the flags of the subtraction on numbers, one lemma for the three registers; then
the encodings and the statement. -/

namespace Sys2Proof.Spec

open Machine

/-- The flags of a comparison on numbers: N and Z of the difference modulo 256, C as the order; neither D nor the old C
is in the formula (R210). -/
theorem compare_eq_withNZ (t : State) (r m : Byte) :
    t.compare r m =
      { withNZ t ((r.toNat + 256 - m.toNat) % 256) with c := decide (r.toNat ≥ m.toNat) } := by
  have hdiff : (r - m).toNat = (r.toNat + 256 - m.toNat) % 256 := by
    have hm := m.isLt
    rw [BitVec.toNat_sub]
    omega
  rw [State.compare, setNZ_eq_withNZ, hdiff]
  rfl

/-- A read-type instruction that compares its operand with the register `reg`, one that the operand's reads leave as it
was. -/
theorem ReadsAs.compares {i : Instr} {rows : List Row} {reg : State → Byte}
    (h : ReadsAs i rows fun t m => t.compare (reg t) m) (s : State)
    (hreg : reg (afterReads s i.mode) = reg s := by rfl) :
    RunsAs i s rows
      { withNZ (afterReads s i.mode) (((reg s).toNat + 256 - (operandByte s i.mode).toNat) % 256) with
        c := decide ((reg s).toNat ≥ (operandByte s i.mode).toNat) } := by
  have hrun := h.runsAs s
  rw [compare_eq_withNZ, hreg] at hrun
  exact hrun

/-- The encodings of CMP (R211). -/
theorem cmp_readsAs {i : Instr} (h : i.mnemonic = .cmp) :
    ReadsAs i
      [⟨0xC9, .imm, 2, false⟩, ⟨0xC5, .zp, 3, false⟩, ⟨0xD5, .zpx, 4, false⟩, ⟨0xCD, .abs, 4, false⟩,
       ⟨0xDD, .abx, 4, true⟩, ⟨0xD9, .aby, 4, true⟩, ⟨0xC1, .inx, 6, false⟩, ⟨0xD1, .iny, 5, true⟩]
      fun t m => t.compare t.a m := by
  cases i <;> cases h
  case cmpImm v => exact .row 0 (.imm v)
  case cmpZp b => exact .row 1 (.mem (.zp b))
  case cmpZpx b => exact .row 2 (.mem (.zpx b))
  case cmpAbs w => exact .row 3 (.mem (.abs w))
  case cmpAbx w => exact .row 4 (.mem (.abx w))
  case cmpAby w => exact .row 5 (.mem (.aby w))
  case cmpInx b => exact .row 6 (.mem (.inx b))
  case cmpIny b => exact .row 7 (.mem (.iny b))

/-- The encodings of CPX (R212). -/
theorem cpx_readsAs {i : Instr} (h : i.mnemonic = .cpx) :
    ReadsAs i [⟨0xE0, .imm, 2, false⟩, ⟨0xE4, .zp, 3, false⟩, ⟨0xEC, .abs, 4, false⟩]
      fun t m => t.compare t.x m := by
  cases i <;> cases h
  case cpxImm v => exact .row 0 (.imm v)
  case cpxZp b => exact .row 1 (.mem (.zp b))
  case cpxAbs w => exact .row 2 (.mem (.abs w))

/-- The encodings of CPY (R213). -/
theorem cpy_readsAs {i : Instr} (h : i.mnemonic = .cpy) :
    ReadsAs i [⟨0xC0, .imm, 2, false⟩, ⟨0xC4, .zp, 3, false⟩, ⟨0xCC, .abs, 4, false⟩]
      fun t m => t.compare t.y m := by
  cases i <;> cases h
  case cpyImm v => exact .row 0 (.imm v)
  case cpyZp b => exact .row 1 (.mem (.zp b))
  case cpyAbs w => exact .row 2 (.mem (.abs w))

/-- Settles O26: each encoding is a read-type row that compares its operand with a register. -/
theorem comparesSetFlagsOnly : Obligations.ComparesSetFlagsOnly :=
  fun _ s =>
    ⟨fun h => (cmp_readsAs h).compares (reg := State.a) s, fun h => (cpx_readsAs h).compares (reg := State.x) s,
      fun h => (cpy_readsAs h).compares (reg := State.y) s⟩

end Sys2Proof.Spec

/-! Increment and decrement (45_incdec.md R220 to R226): the step of a byte on numbers, and what a read-modify-write row
that notes its result comes to; then the encodings of INC and DEC, the index steps as loads of their register, and the
two statements. -/

namespace Sys2Proof.Spec

open Machine

theorem toNat_add_one (v : Byte) : (v + 1).toNat = (v.toNat + 1) % 256 := BitVec.toNat_add v 1

theorem toNat_sub_one (v : Byte) : (v - 1).toNat = (v.toNat + 255) % 256 := by
  rw [BitVec.toNat_sub, Nat.add_comm]
  rfl

theorem add_one_eq_ofNat (v : Byte) : v + 1 = BitVec.ofNat 8 (v.toNat + 1) :=
  BitVec.eq_of_toNat_eq (toNat_add_one v)

theorem sub_one_eq_ofNat (v : Byte) : v - 1 = BitVec.ofNat 8 (v.toNat + 255) :=
  BitVec.eq_of_toNat_eq (toNat_sub_one v)

/-- A read-modify-write that notes its result, in the spec's numbers: the operand's reads, one write of `f` of the
operand byte, N and Z, and a fixed number of cycles (R220, R352). -/
theorem modifyType_noteResult_eq_spend (s : State) (m : MemMode) (base : Nat) (f : Byte → Byte) :
    s.modifyType m base f State.noteResult = spend base (modified s m (f (operandByte s (.mem m))).toNat) := by
  have hread : (s.resolve m).after.afterRead (s.resolve m).ea = afterReads s (.mem m) := operand_after s (.mem m)
  have hbyte : (s.resolve m).after.answer (s.resolve m).ea = operandByte s (.mem m) := operand_value s (.mem m)
  simp only [modifyType_eq, hread, hbyte, State.noteResult, setNZ_eq_withNZ, memWrite_eq, resolve_ea_toNat]
  simp only [modified, ofNat_effectiveAddress, BitVec.ofNat_toNat, BitVec.setWidth_eq]
  rfl

/-- `i` is one of the listed encodings, of a read-modify-write that puts `f` of the byte and notes it in N and Z; its
cycles are fixed. -/
def StepsAs (i : Instr) (rows : List Row) (f : Byte → Byte) : Prop :=
  ∃ r ∈ rows, ∃ m : MemMode, i.opcode = r.opcode ∧ i.mode = .mem m ∧ i.mode.name = r.mode ∧ r.paged = false ∧
    ∀ s, exec i s = .next (s.modifyType m r.base f State.noteResult)

/-- Entry `k` of the list is the encoding of `i`. -/
theorem StepsAs.row {i : Instr} {rows : List Row} {f : Byte → Byte} (k : Nat) (m : MemMode)
    (hk : k < rows.length := by decide)
    (hop : i.opcode = rows[k].opcode := by rfl)
    (hmode : i.mode = .mem m := by rfl)
    (hname : i.mode.name = rows[k].mode := by rfl)
    (hfixed : rows[k].paged = false := by rfl)
    (hexec : ∀ s, exec i s = .next (s.modifyType m rows[k].base f State.noteResult) := by exact fun _ => rfl) :
    StepsAs i rows f :=
  ⟨rows[k], List.getElem_mem hk, m, hop, hmode, hname, hfixed, hexec⟩

theorem StepsAs.runsAs {i : Instr} {rows : List Row} {f : Byte → Byte} (h : StepsAs i rows f) (s : State) :
    ∃ m, i.mode = .mem m ∧ RunsAs i s rows (modified s m (f (operandByte s (.mem m))).toNat) := by
  obtain ⟨r, hr, m, hop, hmode, hname, hfixed, hexec⟩ := h
  refine ⟨m, hmode, r, hr, hop, hname, ?_⟩
  simp [hexec, modifyType_noteResult_eq_spend, Row.cycles, hfixed]

/-- The encodings of INC (R221). -/
theorem inc_stepsAs {i : Instr} (h : i.mnemonic = .inc) :
    StepsAs i [⟨0xE6, .zp, 5, false⟩, ⟨0xF6, .zpx, 6, false⟩, ⟨0xEE, .abs, 6, false⟩, ⟨0xFE, .abx, 7, false⟩]
      (· + 1) := by
  cases i <;> cases h
  case incZp b => exact .row 0 (.zp b)
  case incZpx b => exact .row 1 (.zpx b)
  case incAbs w => exact .row 2 (.abs w)
  case incAbx w => exact .row 3 (.abx w)

/-- The encodings of DEC (R222). -/
theorem dec_stepsAs {i : Instr} (h : i.mnemonic = .dec) :
    StepsAs i [⟨0xC6, .zp, 5, false⟩, ⟨0xD6, .zpx, 6, false⟩, ⟨0xCE, .abs, 6, false⟩, ⟨0xDE, .abx, 7, false⟩]
      (· - 1) := by
  cases i <;> cases h
  case decZp b => exact .row 0 (.zp b)
  case decZpx b => exact .row 1 (.zpx b)
  case decAbs w => exact .row 2 (.abs w)
  case decAbx w => exact .row 3 (.abx w)

/-- Settles O27: each encoding is a read-modify-write row with a fixed count, and its step is plus or minus one modulo
256. -/
theorem incAndDecStepMemory : Obligations.IncAndDecStepMemory := by
  refine fun i s => ⟨fun h => ?_, fun h => ?_⟩
  · simpa only [toNat_add_one] using (inc_stepsAs h).runsAs s
  · simpa only [toNat_sub_one] using (dec_stepsAs h).runsAs s

/-- An instruction with one implied encoding of `k` cycles, whose effect besides the cycles is `t`. -/
theorem RunsAs.implied {i : Instr} {s t : State} {op : Byte} {k : Nat}
    (hop : i.opcode = op := by rfl)
    (hname : i.mode.name = .imp := by rfl)
    (hexec : exec i s = .next (t.finish k) := by rfl) :
    RunsAs i s [⟨op, .imp, k, false⟩] t :=
  ⟨_, List.mem_singleton_self _, hop, hname, hexec⟩

/-- A load of X with the low byte of a number (R33). -/
theorem loadX_ofNat (t : State) (k : Nat) :
    t.loadX (BitVec.ofNat 8 k) = { withNZ t (k % 256) with x := BitVec.ofNat 8 k } := by
  rw [loadX_eq_withNZ, BitVec.toNat_ofNat]

/-- A load of Y with the low byte of a number (R33). -/
theorem loadY_ofNat (t : State) (k : Nat) :
    t.loadY (BitVec.ofNat 8 k) = { withNZ t (k % 256) with y := BitVec.ofNat 8 k } := by
  rw [loadY_eq_withNZ, BitVec.toNat_ofNat]

/-- Settles O28: each index step is a load of the register with its value plus or minus one. -/
theorem indexRegistersStepModulo256 : Obligations.IndexRegistersStepModulo256 := by
  intro s
  refine ⟨?inx, ?dex, ?iny, ?dey⟩
  case inx =>
    rw [← loadX_ofNat, ← add_one_eq_ofNat]
    exact .implied
  case dex =>
    rw [← loadX_ofNat, ← sub_one_eq_ofNat]
    exact .implied
  case iny =>
    rw [← loadY_ofNat, ← add_one_eq_ofNat]
    exact .implied
  case dey =>
    rw [← loadY_ofNat, ← sub_one_eq_ofNat]
    exact .implied

end Sys2Proof.Spec

/-! Conditional branches (46_branch.md R230 to R239): the target and the page crossing on numbers, what a branch comes to
once its condition is decided, and the statement. -/

namespace Sys2Proof.Spec

open Machine

/-- Adding the sign-extended offset is adding the offset as an integer, modulo 65536 (R230). -/
theorem branchTarget_toNat (pc : Addr) (off : Byte) :
    (branchTarget pc off).toNat = ((pc.toNat + off.toInt) % 65536).toNat := by
  have hsum : branchTarget pc off = BitVec.ofInt 16 (pc.toNat + off.toInt) := by
    rw [BitVec.ofInt_add, BitVec.ofInt_natCast, BitVec.ofNat_toNat, BitVec.setWidth_eq]
    rfl
  rw [hsum, BitVec.toNat_ofInt]
  rfl

theorem branchTarget_eq_ofNat (pc : Addr) (off : Byte) :
    branchTarget pc off = BitVec.ofNat 16 ((pc.toNat + off.toInt) % 65536).toNat := by
  rw [← branchTarget_toNat, BitVec.ofNat_toNat, BitVec.setWidth_eq]

/-- The cycles of a taken branch, by the pages of the target and of the advanced PC (R231). -/
theorem takenCycles_eq (pc : Addr) (off : Byte) :
    (if pageDiffers (branchTarget pc off) pc then 4 else 3) =
      if ((pc.toNat + off.toInt) % 65536).toNat / 256 = pc.toNat / 256 then 3 else 4 := by
  rw [pageDiffers_eq, branchTarget_toNat]
  simp only [bne_iff_ne, ite_not]

/-- Every branch, its condition decided, moves PC and spends its cycles as R230 and R231 say. -/
theorem branch_eq_branched (s : State) (taken : Bool) (off : Byte) : s.branch taken off = branched s taken off := by
  cases taken with
  | false => rfl
  | true =>
    calc s.branch true off
      _ = spend (if pageDiffers (branchTarget s.pc off) s.pc then 4 else 3) { s with pc := branchTarget s.pc off } := rfl
      _ = branched s true off := by
        rw [takenCycles_eq, branchTarget_eq_ofNat]
        rfl

/-- Settles O29: each of the eight runs the shared branch on its own flag and polarity (R232 to R239), which
`branch_eq_branched` describes. -/
theorem branchesMovePcByTheSignedOffset : Obligations.BranchesMovePcByTheSignedOffset := by
  intro s off
  simp only [← branch_eq_branched]
  exact ⟨⟨rfl, rfl⟩, ⟨rfl, rfl⟩, ⟨rfl, rfl⟩, ⟨rfl, rfl⟩, ⟨rfl, rfl⟩, ⟨rfl, rfl⟩, ⟨rfl, rfl⟩, ⟨rfl, rfl⟩⟩

end Sys2Proof.Spec

/-! The stack in the spec's numbers (10_state.md R23; 20_memory.md R70 to R72): a push, and pulls in a row. -/

namespace Sys2Proof.Spec

open Machine

/-- A number designates the stack cell of its low byte (R23, R72). -/
theorem stackAddr_ofNat_toNat (k : Nat) : (stackAddr (BitVec.ofNat 8 k)).toNat = stackCell k := by
  rw [stackAddr_toNat, BitVec.toNat_ofNat, stackCell]

theorem stackCell_toNat (sp : Byte) : stackCell sp.toNat = (stackAddr sp).toNat := by
  rw [← stackAddr_ofNat_toNat, BitVec.ofNat_toNat, BitVec.setWidth_eq]

theorem push_eq_pushed (s : State) (v : Byte) : s.push v = pushed s v := by
  rw [push_eq, pushed, stackCell_toNat, BitVec.ofNat_toNat, BitVec.setWidth_eq, sub_one_eq_ofNat]

theorem hiByte_eq_high (w : Addr) : hiByte w = high w.toNat := by
  rw [high, ← hiByte_toNat, BitVec.ofNat_toNat, BitVec.setWidth_eq]

theorem loByte_eq_low (w : Addr) : loByte w = low w.toNat := by
  apply BitVec.eq_of_toNat_eq
  rw [loByte_toNat, low, BitVec.toNat_ofNat]

theorem pushAddr_eq_pushed (s : State) (w : Addr) : s.pushAddr w = pushed (pushed s (high w.toNat)) (low w.toNat) := by
  rw [State.pushAddr, push_eq_pushed, push_eq_pushed, hiByte_eq_high, loByte_eq_low]

/-- The state after `k` pulls (R71). -/
def afterPulls (s : State) (k : Nat) : State :=
  { s with
    s := BitVec.ofNat 8 (s.s.toNat + k)
    port := s.port ++ pullReads s k }

theorem afterPulls_zero (s : State) : afterPulls s 0 = s := by
  simp [afterPulls, pullReads, pullCells, readsAt]

theorem pullCells_succ (s : State) (k : Nat) :
    pullCells s (k + 1) = pullCells s k ++ [stackCell (s.s.toNat + (k + 1))] := by
  simp [pullCells, List.range_succ]

/-- One more pull is one more read, at the next cell (R71). -/
theorem pullReads_succ (s : State) (k : Nat) :
    pullReads s (k + 1) =
      pullReads s k ++ [⟨.read, stackAddr (BitVec.ofNat 8 (s.s.toNat + (k + 1))), stackByte s (k + 1)⟩] := by
  rw [pullReads, pullCells_succ, readsAt_append, ← stackAddr_ofNat_toNat, readsAt_one, ← answered_eq,
    stackAddr_ofNat_toNat]
  rfl

/-- One more pull brings the next byte of the stack (R71). -/
theorem pull_afterPulls (s : State) (k : Nat) :
    (afterPulls s k).pull = (stackByte s (k + 1), afterPulls s (k + 1)) := by
  have hsp : (afterPulls s k).s + 1 = BitVec.ofNat 8 (s.s.toNat + (k + 1)) := by
    rw [← Nat.add_assoc, BitVec.ofNat_add]
    rfl
  have hbyte : (afterPulls s k).answer (stackAddr (BitVec.ofNat 8 (s.s.toNat + (k + 1)))) = stackByte s (k + 1) := by
    rw [← answered_eq, stackAddr_ofNat_toNat]
    exact answered_congr rfl rfl rfl _
  rw [pull_eq, hsp, hbyte, afterRead_eq, hbyte]
  simp only [afterPulls, pullReads_succ, List.append_assoc]

/-- A word pulled after `k` pulls is the next two bytes of the stack, low byte first (R67). -/
theorem pullAddr_afterPulls (s : State) (k : Nat) :
    (afterPulls s k).pullAddr =
      (pairAddr (stackByte s (k + 2)) (stackByte s (k + 1)), afterPulls s (k + 2)) := by
  simp only [State.pullAddr, pull_afterPulls]

theorem pullAddr_eq_stackBytes (s : State) :
    s.pullAddr = (pairAddr (stackByte s 2) (stackByte s 1), afterPulls s 2) := by
  have h := pullAddr_afterPulls s 0
  rwa [afterPulls_zero] at h

end Sys2Proof.Spec

/-! Jump, call and return (47_jump_call.md R250 to R253): a jump through the resolver, the words JSR pushes and RTS
jumps to, and the three statements. -/

namespace Sys2Proof.Spec

open Machine

/-- An instruction with one encoding of `k` cycles and no page penalty, whose effect besides the cycles is `t`. -/
theorem RunsAs.fixed {i : Instr} {s t : State} {op : Byte} {mode : ModeName} {k : Nat}
    (hexec : exec i s = .next (spend k t))
    (hop : i.opcode = op := by rfl)
    (hname : i.mode.name = mode := by rfl) :
    RunsAs i s [⟨op, mode, k, false⟩] t :=
  ⟨_, List.mem_singleton_self _, hop, hname, hexec⟩

/-- A jump makes its mode's pointer reads and goes to the effective address (R250, R251). -/
theorem jump_eq_spend (s : State) (m : MemMode) (k : Nat) :
    s.jump m k =
      spend k { afterReadsAt s (pointerCells s m) with pc := BitVec.ofNat 16 (effectiveAddress s m) } := by
  rw [← resolve_after_eq_afterReadsAt, ofNat_effectiveAddress]
  rfl

/-- The address of the last byte of the JSR, as a number (R252). -/
theorem addr_sub_one_toNat (w : Addr) : (w - 1).toNat = (w.toNat + 65535) % 65536 := by
  rw [BitVec.toNat_sub, Nat.add_comm]
  rfl

/-- The address past the pulled word, modulo 65536 (R253). -/
theorem pairAddr_add_one (hi lo : Byte) :
    pairAddr hi lo + 1 = BitVec.ofNat 16 (hi.toNat * 256 + lo.toNat + 1) := by
  rw [← pairAddr_toNat, BitVec.ofNat_add, BitVec.ofNat_toNat, BitVec.setWidth_eq]
  rfl

/-- Settles O30: both run the shared jump, through a mode without a pointer and through Indirect, whose pointer wraps
inside its page. -/
theorem jumpsTakeTheirTarget : Obligations.JumpsTakeTheirTarget := by
  intro s w
  constructor
  · exact .fixed rfl
  · have hexec : exec (.jmpInd w) s = .next (s.jump (.ind w) 5) := rfl
    rw [jump_eq_spend] at hexec
    exact .fixed hexec

/-- Settles O31: PC - 1 is pushed by two pushes, then PC takes the operand. -/
theorem jsrPushesItsLastByteAddress : Obligations.JsrPushesItsLastByteAddress := by
  intro s w
  have hexec : exec (.jsr w) s = .next (((s.pushAddr (s.pc - 1)).setPc w).finish 6) := rfl
  rw [pushAddr_eq_pushed, addr_sub_one_toNat] at hexec
  exact .fixed hexec

/-- Settles O32: two pulls bring the bytes `stackByte` names, and PC takes their word plus one. -/
theorem rtsReturnsPastThePulledAddress : Obligations.RtsReturnsPastThePulledAddress := by
  intro s
  have hexec : exec .rts s = .next ((s.pullAddr.2.setPc (s.pullAddr.1 + 1)).finish 6) := rfl
  rw [pullAddr_eq_stackBytes, pairAddr_add_one] at hexec
  exact .fixed hexec

end Sys2Proof.Spec

/-! Stack transfers (48_stack_transfer.md R260 to R264): the two forced bits of a pushed status byte, one pull in the
spec's numbers, and the two statements. -/

namespace Sys2Proof.Spec

open Machine

/-- `Pack(1)` has bits 5 and 4 set: masked bit by bit, the six flags drop out (R30, R262). -/
theorem pack_true_and_0x30 (s : State) : s.pack true &&& 0x30 = 0x30 := by
  have hmask : (0x30 : Byte) =
      (((((((BitVec.ofBool false).concat false).concat true).concat true).concat false).concat false).concat
        false).concat false := rfl
  rw [pack_eq_concat, hmask]
  simp only [BitVec.concat_and_concat, BitVec.ofBool_and_ofBool, Bool.and_false, Bool.and_true]

theorem pull_eq_stackByte (s : State) : s.pull = (stackByte s 1, afterPulls s 1) := by
  have h := pull_afterPulls s 0
  rwa [afterPulls_zero] at h

/-- Settles O33: both run the shared push, PHP of `Pack(1)`. -/
theorem pushesWriteAAndP : Obligations.PushesWriteAAndP := by
  intro s
  refine ⟨?pha, ?php, ?forced⟩
  case pha =>
    rw [← push_eq_pushed]
    exact .implied
  case php =>
    rw [← pack_eq_packed, ← push_eq_pushed]
    exact .implied
  case forced =>
    rw [← pack_eq_packed]
    exact pack_true_and_0x30 s

/-- Settles O34: both run the shared pull, then PLA loads A with the pulled byte and PLP unpacks it. -/
theorem pullsLoadAAndTheFlags : Obligations.PullsLoadAAndTheFlags := by
  intro s
  constructor
  case left =>
    have hexec : exec .pla s = .next (spend 4 (s.pull.2.loadA s.pull.1)) := rfl
    rw [pull_eq_stackByte, loadA_eq_withNZ] at hexec
    exact .fixed hexec
  case right =>
    have hexec : exec .plp s = .next (spend 4 (s.pull.2.unpack s.pull.1)) := rfl
    rw [pull_eq_stackByte, unpack_eq_unpacked] at hexec
    exact .fixed hexec

end Sys2Proof.Spec

/-! NOP and BRK (49_flags_system.md R287, R289): the one way into a handler in the spec's numbers,
what NOP's opcode byte decodes to, and the two statements. -/

namespace Sys2Proof.Spec

open Machine

/-- PC takes the word at the vector, after reading its two bytes (R307). -/
theorem jumpVector_eq (s : State) (vec : Addr) :
    s.jumpVector vec =
      { afterReadsAt s [vec.toNat, (vec + 1).toNat] with
        pc := BitVec.ofNat 16 (wordAt s vec.toNat (vec + 1).toNat) } := by
  rw [← readPair_fst_toNat, ← readPair_snd, BitVec.ofNat_toNat, BitVec.setWidth_eq]
  rfl

/-- Setting I changes no answer, so PC takes the word at the vector as before it (R307). -/
theorem setI_jumpVector_eq (t : State) (vec : Addr) :
    (t.setI true).jumpVector vec =
      { t with
        i := true
        pc := BitVec.ofNat 16 (wordAt t vec.toNat (vec + 1).toNat)
        port := t.port ++ readsAt t [vec.toNat, (vec + 1).toNat] } := by
  rw [jumpVector_eq]
  rfl

/-- The one way into a handler, for a vector that is not the last byte of memory (R307). -/
theorem interrupt_eq_entered (s : State) (vec : Addr) (b : Bool) (ret : Addr) (hvec : vec.toNat + 1 < 65536) :
    s.interrupt vec b ret = entered s vec.toNat b ret.toNat := by
  have hnext : (vec + 1).toNat = vec.toNat + 1 := BitVec.toNat_add_of_lt hvec
  rw [State.interrupt, pushAddr_eq_pushed, push_eq_pushed, pack_eq_packed, setI_jumpVector_eq, hnext, entered]

/-- Settles O38: BRK enters through the shared operation with the address past the padding byte. -/
theorem brkEntersTheSharedVector : Obligations.BrkEntersTheSharedVector := by
  intro s
  have hexec : exec .brk s = .next (spend 7 (s.interrupt irqVector true (s.pc + 1))) := rfl
  rw [interrupt_eq_entered s irqVector true (s.pc + 1) (by decide), BitVec.toNat_add] at hexec
  exact .fixed hexec

/-- NOP's opcode byte decodes to it, whatever the next two bytes are. -/
theorem decode_of_answered_nop {t : State} {k : Nat} (h : answered t k = 0xEA) (k1 k2 : Nat) :
    ∃ rest, decode ((readsAt t [k, k1, k2]).map (·.data)) = .ok (.nop, rest) := by
  simp only [readsAt, List.map, h]
  exact ⟨_, rfl⟩

/-- Settles O37: NOP is its cycles alone, and its step runs it after the fetch of its one byte. -/
theorem nopOnlySpendsCycles : Obligations.NopOnlySpendsCycles := by
  refine fun s => ⟨.implied, fun hr hn hirq hop => ?_⟩
  obtain ⟨rest, hdec⟩ := decode_of_answered_nop hop _ _
  have hfetched : (List.range 1).map (fun k => (s.pc.toNat + k) % 65536) = [s.pc.toNat] := by
    simp [Nat.mod_eq_of_lt s.pc.isLt]
  rw [stepRunsTheDecodedInstruction s .nop rest hr hn hirq hdec, ← hfetched]
  rfl

end Sys2Proof.Spec

/-! NMI and IRQ service (60_exceptions.md R305, R306): which service a step in Running is, each service in the spec's
numbers, and the two statements. -/

namespace Sys2Proof.Spec

open Machine

/-- In Running with an NMI pending, a step services it, whatever I and irq_line are (R300, R305). -/
theorem step_eq_serviceNmi {s : State} (hr : s.rs = .running) (hn : s.nmiPending = true) :
    step s = .next s.beginStep.serviceNmi := by
  simp [step, stepEvent, hr, hn]

/-- In Running with no NMI pending and an IRQ to take, a step services the IRQ (R300, R306). -/
theorem step_eq_serviceIrq {s : State} (hr : s.rs = .running) (hn : s.nmiPending = false) (hq : s.takesIrq = true) :
    step s = .next s.beginStep.serviceIrq := by
  simp [step, stepEvent, hr, hn, hq]

/-- NMI service clears the latch and enters through the vector at 0xFFFA with B = 0 (R305, R308). -/
theorem serviceNmi_eq_entered (s : State) :
    s.serviceNmi = spend 7 (entered { s with nmiPending := false } 0xFFFA false s.pc.toNat) :=
  congrArg (spend 7) (interrupt_eq_entered { s with nmiPending := false } nmiVector false s.pc (by decide))

/-- IRQ service enters through the vector at 0xFFFE with B = 0 (R306, R308). -/
theorem serviceIrq_eq_entered (s : State) :
    s.serviceIrq = spend 7 (entered s 0xFFFE false s.pc.toNat) :=
  congrArg (spend 7) (interrupt_eq_entered s irqVector false s.pc (by decide))

/-- Settles O7: the pending latch alone chooses NMI service, which enters through the shared operation. -/
theorem pendingNmiIsServicedWhateverIIs : Obligations.PendingNmiIsServicedWhateverIIs := by
  intro s hr hn
  calc step s
    _ = .next s.beginStep.serviceNmi := step_eq_serviceNmi hr hn
    _ = .next (spend 7 (entered { begun s with nmiPending := false } 0xFFFA false s.pc.toNat)) :=
      congrArg Host.Outcome.next (serviceNmi_eq_entered (begun s))

/-- Settles O8: with no NMI pending, the asserted line and I = 0 choose IRQ service, which enters through the shared
operation. -/
theorem unmaskedIrqIsServiced : Obligations.UnmaskedIrqIsServiced := by
  intro s hr hn hline hi
  have hq : s.takesIrq = true := by simp [State.takesIrq, hline, hi]
  calc step s
    _ = .next s.beginStep.serviceIrq := step_eq_serviceIrq hr hn hq
    _ = .next (spend 7 (entered (begun s) 0xFFFE false s.pc.toNat)) :=
      congrArg Host.Outcome.next (serviceIrq_eq_entered (begun s))

end Sys2Proof.Spec

/-! The encoder undoes the decoder and the decoder the encoder (30_encoding.md R90 to R99): the decoder as a relation
between words and instructions, what an entry of the opcode matrix says about the words of its instructions, once for
each direction, and the statements. -/

namespace Sys2Proof

/-- The bytes `bs` after the opcode are what a format asks for, low byte first, and make it instruction `i` (R91). -/
inductive Format.Reads : Format → List Byte → Instr → Prop
  | f1 (i : Instr) : Reads (.f1 i) [] i
  | f2 (k : Byte → Instr) (b : Byte) : Reads (.f2 k) [b] (k b)
  | f3 (k : Addr → Instr) (w : Addr) : Reads (.f3 k) [loByte w, hiByte w] (k w)

/-- What a format reads off the front of a list, the decoder reads after its opcode byte (R90). -/
theorem decode_of_reads {op : Byte} {bs : List Byte} {i : Instr} (h : (formatOf op).Reads bs i) (rest : List Byte) :
    decode (op :: bs ++ rest) = .ok (i, rest) := by
  generalize hf : formatOf op = f at h
  cases h with
  | f1 i => simp [decode, hf]
  | f2 k b => simp [decode, hf]
  | f3 k w => simp [decode, hf, Machine.pairAddr_hiByte_loByte]

/-- The decoder reads an opcode byte and what its format asks for, and nothing else (R90, R91). -/
theorem reads_of_decode {bytes rest : List Byte} {i : Instr} (h : decode bytes = .ok (i, rest)) :
    ∃ op bs, bytes = op :: bs ++ rest ∧ (formatOf op).Reads bs i := by
  unfold decode at h
  split at h
  · cases h
  · rename_i op tail
    refine ⟨op, ?_⟩
    split at h
    case h_1 i hf =>
      cases h
      exact ⟨[], rfl, hf ▸ .f1 _⟩
    case h_2 k b tail hf =>
      cases h
      exact ⟨[b], rfl, hf ▸ .f2 k b⟩
    case h_3 k lo hi tail hf =>
      cases h
      have hw := Format.Reads.f3 k (pairAddr hi lo)
      rw [Machine.loByte_pairAddr, Machine.hiByte_pairAddr] at hw
      exact ⟨[lo, hi], rfl, hf ▸ hw⟩
    case h_4 => cases h

/-- An entry of the opcode matrix for `op`: its instructions are well formed, and their words are `op` and the bytes its
format asks for (R95, R99). -/
inductive Format.Encodes (op : Byte) : Format → Prop
  | f1 {i : Instr} : i.wf = true → encode i = [op] → Encodes op (.f1 i)
  | f2 {k : Byte → Instr} : (∀ b, (k b).wf = true) → (∀ b, encode (k b) = [op, b]) → Encodes op (.f2 k)
  | f3 {k : Addr → Instr} :
    (∀ w, (k w).wf = true) → (∀ w, encode (k w) = [op, loByte w, hiByte w]) → Encodes op (.f3 k)

/-- Each of the 256 entries of the opcode matrix encodes to its own byte (R95 to R97). -/
theorem encodes_formatOf (op : Byte) : (formatOf op).Encodes op := by
  have hop : op = BitVec.ofNat 8 op.toNat := by simp
  have hlt := op.isLt
  generalize op.toNat = n at hop hlt
  subst hop
  interval_cases n <;> constructor <;> intros <;> rfl

theorem Format.Encodes.of_reads {op : Byte} {f : Format} {bs : List Byte} {i : Instr} (h : f.Encodes op)
    (hr : f.Reads bs i) : i.wf = true ∧ encode i = op :: bs := by
  cases hr with
  | f1 i => cases h with | f1 hwf he => exact ⟨hwf, he⟩
  | f2 k b => cases h with | f2 hwf he => exact ⟨hwf b, he b⟩
  | f3 k w => cases h with | f3 hwf he => exact ⟨hwf w, he w⟩

/-- The 105 bytes of R97 have an entry of their own, of format F1. -/
theorem formatOf_undocumented {op : Byte} (h : op ∈ undocumentedBytes) : formatOf op = .f1 (.undoc op) := by
  fin_cases h <;> rfl

/-- The entry of the opcode matrix under the opcode of a well-formed instruction reads its operand bytes as that
instruction (R95 to R99). -/
theorem formatOf_opcode_reads (i : Instr) (h : i.wf = true) : (formatOf i.opcode).Reads i.mode.operandBytes i := by
  cases i
  case undoc op => exact formatOf_undocumented (List.contains_iff_mem.mp h) ▸ .f1 _
  all_goals
    simp only [Instr.opcode, Instr.mode, Mode.operandBytes]
    constructor

/-- Settles O2: the matrix entry under the instruction's opcode reads its operand bytes, and the decoder follows it. -/
theorem decodeOfEncodeIsTheInstruction : Obligations.DecodeOfEncodeIsTheInstruction :=
  fun i rest h => decode_of_reads (formatOf_opcode_reads i h) rest

/-- Settles O3: what the decoder read, the matrix entry of its opcode byte encodes. -/
theorem encodeOfDecodeIsTheWords : Obligations.EncodeOfDecodeIsTheWords := by
  intro bytes rest i h
  obtain ⟨op, bs, rfl, hr⟩ := reads_of_decode h
  obtain ⟨hwf, he⟩ := (encodes_formatOf op).of_reads hr
  exact ⟨hwf, by rw [he]⟩

/-- The bytes that follow an opcode byte change neither mnemonic nor mode (R94, R95). -/
theorem fill_formatOf_mnemonic_mode (op b1 b2 c1 c2 : Byte) :
    ((formatOf op).fill b1 b2).mnemonic = ((formatOf op).fill c1 c2).mnemonic ∧
      ((formatOf op).fill b1 b2).mode.name = ((formatOf op).fill c1 c2).mode.name := by
  unfold formatOf
  split
  all_goals
    delta opcodeRow0 opcodeRow1 opcodeRow2 opcodeRow3 opcodeRow4 opcodeRow5 opcodeRow6 opcodeRow7 opcodeRow8 opcodeRow9
      opcodeRowA opcodeRowB opcodeRowC opcodeRowD opcodeRowE opcodeRowF
    split <;> exact ⟨rfl, rfl⟩

/-- An instruction has as many bytes as its mode says (R92). -/
theorem encode_length (i : Instr) : (encode i).length = i.mode.name.length := by
  rw [encode, List.length_cons]
  cases i.mode with
  | mem m => cases m <;> rfl
  | _ => rfl

theorem Format.length_le (f : Format) : f.length ≤ 3 := by
  cases f <;> simp [Format.length]

/-- Settles O4: the decoder fills the opcode's format, whose length is the mode's. -/
theorem everyOpcodeByteDecodesAloneToItsLength : Obligations.EveryOpcodeByteDecodesAloneToItsLength := by
  intro op b1 b2 c1 c2
  obtain ⟨hmn, hmode⟩ := fill_formatOf_mnemonic_mode op b1 b2 c1 c2
  have hlen := mode_length_fill_formatOf op b1 b2
  have hle := (formatOf op).length_le
  have hdrop (x y : Byte) : ([op, x, y].drop (formatOf op).length).length + (formatOf op).length = 3 := by
    rw [List.length_drop]
    exact Nat.sub_add_cancel hle
  refine ⟨_, _, _, _, decode_three op b1 b2, decode_three op c1 c2, hmn, hmode, encode_length _, ?_, ?_, ?_⟩
  · rw [encode_length, hmode]
  · rw [hlen, hdrop]
  · rw [hlen, hdrop]

/-- Settles O5: the two round trips, read at the one byte of an undocumented instruction. -/
theorem exactlyTheListedBytesAreUndocumented : Obligations.ExactlyTheListedBytesAreUndocumented := by
  refine ⟨by decide, by decide, fun op rest => ⟨fun h => ?_, fun h => ?_⟩⟩
  · exact List.contains_iff_mem.mp (encodeOfDecodeIsTheWords _ _ _ h).1
  · exact decodeOfEncodeIsTheInstruction (.undoc op) rest (List.contains_iff_mem.mpr h)

/-- A well-formed instruction's words, alone, decode to it. -/
theorem decode_words {bytes : List Byte} {i : Instr} (hwf : i.wf = true) (he : encode i = bytes) :
    decode bytes = .ok (i, []) := by
  rw [← he, ← decodeOfEncodeIsTheInstruction i [] hwf, List.append_nil]

/-- Settles O1: each of the twelve lists is the encoding of its instruction, which the decoder undoes. -/
theorem decodedWordsOfTheMatrix : Obligations.DecodedWordsOfTheMatrix :=
  ⟨decode_words rfl rfl, decode_words rfl rfl, decode_words rfl rfl, decode_words rfl rfl, decode_words rfl rfl,
    decode_words rfl rfl, decode_words rfl rfl, decode_words rfl rfl, decode_words rfl rfl, decode_words rfl rfl,
    decode_words rfl rfl, decode_words rfl rfl⟩

end Sys2Proof

/-! Decimal addition (42_arithmetic.md R172): a digit sum and its carry, the decimal sum on numbers, and the statements
about ADC with D = 1. -/

namespace Sys2Proof.Spec

open Machine

theorem flagNat_le_one (b : Bool) : flagNat b ≤ 1 := by cases b <;> decide

/-- A corrected digit sum, kept to four bits, is the spec's digit (R172). -/
theorem decimalAdjust_mod (k : Nat) (h : k < 32) : decimalAdjust k % 16 = addDigit k := by
  simp only [decimalAdjust, addDigit]
  split <;> omega

/-- A digit sum carries out of its four bits exactly when it needs the correction (R172). -/
theorem decimalAdjust_gt (k : Nat) : decimalAdjust k > 15 ↔ k > 9 := by
  simp only [decimalAdjust]
  split <;> omega

theorem addDigit_lt (k : Nat) : addDigit k < 16 := by
  simp only [addDigit]
  split <;> omega

/-- The low digit sum of a decimal addition (R172). -/
def lowSum (a m : Byte) (c : Bool) : Nat := a.toNat % 16 + m.toNat % 16 + flagNat c

/-- The high digit sum of a decimal addition, with the carry from the low digit (R172). -/
def highSum (a m : Byte) (c : Bool) : Nat := a.toNat / 16 + m.toNat / 16 + (if lowSum a m c > 9 then 1 else 0)

/-- The result of a decimal addition as a number (R172). -/
def decimalSum (a m : Byte) (c : Bool) : Nat := addDigit (highSum a m c) * 16 + addDigit (lowSum a m c)

theorem lowSum_lt (a m : Byte) (c : Bool) : lowSum a m c < 32 := by
  have := flagNat_le_one c
  simp only [lowSum]
  omega

theorem highSum_lt (a m : Byte) (c : Bool) : highSum a m c < 32 := by
  simp only [highSum]
  split <;> omega

theorem decimalSum_lt (a m : Byte) (c : Bool) : decimalSum a m c < 256 := by
  have hhi := addDigit_lt (highSum a m c)
  have hlo := addDigit_lt (lowSum a m c)
  simp only [decimalSum]
  omega

/-- Decimal addition on numbers, for every operand byte (R172). -/
theorem adcDecimal_eq (a m : Byte) (c : Bool) :
    adcDecimal a m c =
      { value := BitVec.ofNat 8 (decimalSum a m c)
        overflow := outOfRange (a.toInt + m.toInt + flagNat c)
        carry := decide (highSum a m c > 9) } := by
  have hlo := decimalAdjust_mod _ (lowSum_lt a m c)
  have hhi := decimalAdjust_mod _ (highSum_lt a m c)
  rw [← signedOverflow_binarySum]
  simp only [adcDecimal, lowNibble, highNibble, decimalAdjust_gt]
  rw [decimalSum, ← hlo, ← hhi]
  rfl

theorem adcDecimal_value_toNat (a m : Byte) (c : Bool) : (adcDecimal a m c).value.toNat = decimalSum a m c := by
  rw [adcDecimal_eq, BitVec.toNat_ofNat, Nat.mod_eq_of_lt (decimalSum_lt a m c)]

/-- ADC in decimal mode, on numbers (R172). -/
theorem addWithCarry_decimal (t : State) (m : Byte) (hd : t.d = true) :
    t.addWithCarry m =
      { withNZ t (decimalSum t.a m t.c) with
        a := BitVec.ofNat 8 (decimalSum t.a m t.c)
        v := outOfRange (t.a.toInt + m.toInt + flagNat t.c)
        c := decide (highSum t.a m t.c > 9) } := by
  have hadc : adc t.d t.a m t.c = adcDecimal t.a m t.c := by simp [adc, hd]
  rw [State.addWithCarry, applyAlu_eq_withNZ, hadc, adcDecimal_value_toNat, adcDecimal_eq]

/-- Settles O18: each encoding is a read-type row, and the operand's reads leave A, C and D as they were. -/
theorem adcDecimalAddsDigitByDigit : Obligations.AdcDecimalAddsDigitByDigit := by
  intro i s h hd
  have hrun := (adc_readsAs h).runsAs s
  rw [addWithCarry_decimal (afterReads s i.mode) (operandByte s i.mode) hd] at hrun
  exact hrun

/-- A sum of two decimal digits and a carry: its digit is the sum modulo 10, and it is a decimal digit. -/
theorem addDigit_eq_mod_ten {k : Nat} (h : k ≤ 19) : addDigit k = k % 10 := by
  simp only [addDigit]
  split <;> omega

theorem validBcd_iff (v : Byte) : validBcd v = true ↔ v.toNat / 16 ≤ 9 ∧ v.toNat % 16 ≤ 9 := by
  simp [validBcd]

/-- Settles O19: both digits of a valid sum are decimal, with the hundreds as the carry out of the high one. -/
theorem decimalAddOfValidBcdIsTheTwoDigitSum : Obligations.DecimalAddOfValidBcdIsTheTwoDigitSum := by
  intro a m c ha hm
  rw [validBcd_iff] at ha hm
  have hadc : adc true a m c = adcDecimal a m c := rfl
  have hc := flagNat_le_one c
  have hlo : lowSum a m c ≤ 19 := by
    simp only [lowSum]
    omega
  have hhi : highSum a m c ≤ 19 := by
    simp only [highSum]
    split <;> omega
  have hsum : bcdValue a + bcdValue m + flagNat c = highSum a m c * 10 + lowSum a m c % 10 := by
    have hdigits : bcdValue a + bcdValue m + flagNat c = (a.toNat / 16 + m.toNat / 16) * 10 + lowSum a m c := by
      simp only [bcdValue, lowSum]
      omega
    simp only [highSum]
    split <;> omega
  have hvalue := adcDecimal_value_toNat a m c
  rw [decimalSum, addDigit_eq_mod_ten hlo, addDigit_eq_mod_ten hhi] at hvalue
  rw [hadc, validBcd_iff, bcdValue, hvalue, adcDecimal_eq, hsum]
  refine ⟨by omega, by omega, ?_⟩
  rw [decide_eq_decide]
  omega

end Sys2Proof.Spec

/-! Subtraction (42_arithmetic.md R174, R175): V and C as those of the signed and unsigned difference, the decimal
difference on numbers, the encodings of SBC, and the statements about SBC. -/

namespace Sys2Proof.Spec

open Machine

/-- What SBC takes off besides its operand: 1 when C is clear (R175). -/
def borrow (c : Bool) : Nat := 1 - flagNat c

theorem complement_toNat (m : Byte) : (m ^^^ 0xFF).toNat = 255 - m.toNat := by
  have h : m ^^^ 0xFF = ~~~m := BitVec.xor_allOnes
  rw [h, BitVec.toNat_not]

theorem complement_toInt (m : Byte) : (m ^^^ 0xFF).toInt = -1 - m.toInt := by
  have hm := m.isLt
  simp only [BitVec.toInt_eq_toNat_cond, complement_toNat]
  omega

/-- Adding the complement and the carry is taking off the operand and the borrow, with 256 added (R175). -/
theorem binarySum_complement (a m : Byte) (c : Bool) :
    binarySum a (m ^^^ 0xFF) c = a.toNat + 256 - m.toNat - borrow c := by
  have hm := m.isLt
  have hc := flagNat_le_one c
  rw [binarySum, complement_toNat, borrow]
  omega

/-- V of SBC, in both modes: the signed difference is out of range (R175). -/
theorem sbc_overflow (d : Bool) (a m : Byte) (c : Bool) :
    (sbc d a m c).overflow = outOfRange (a.toInt - m.toInt - borrow c) := by
  have hc := flagNat_le_one c
  have hdiff : a.toInt + (-1 - m.toInt) + flagNat c = a.toInt - m.toInt - borrow c := by
    rw [borrow]
    omega
  rw [← hdiff, ← complement_toInt, ← signedOverflow_binarySum]
  rfl

/-- C of SBC, in both modes: no borrow (R175). -/
theorem sbc_carry (d : Bool) (a m : Byte) (c : Bool) :
    (sbc d a m c).carry = decide (a.toNat ≥ m.toNat + borrow c) := by
  have hm := m.isLt
  have hc : borrow c ≤ 1 := Nat.sub_le _ _
  have hcarry : (sbc d a m c).carry = decide (binarySum a (m ^^^ 0xFF) c > 255) := rfl
  rw [hcarry, binarySum_complement, decide_eq_decide]
  omega

/-- The binary difference modulo 256 as a number (R175). -/
def binaryDiff (a m : Byte) (c : Bool) : Nat := (((a.toNat : Int) - m.toNat - borrow c) % 256).toNat

/-- The low digit difference of a decimal subtraction (R175). -/
def lowDiff (a m : Byte) (c : Bool) : Int := (a.toNat % 16 : Nat) - (m.toNat % 16 : Nat) - borrow c

/-- The high digit difference of a decimal subtraction, with the borrow of the low digit (R175). -/
def highDiff (a m : Byte) (c : Bool) : Int :=
  (a.toNat / 16 : Nat) - (m.toNat / 16 : Nat) - (if lowDiff a m c < 0 then 1 else 0)

/-- The result of a decimal subtraction as a number (R175). -/
def decimalDiff (a m : Byte) (c : Bool) : Nat := subDigit (highDiff a m c) * 16 + subDigit (lowDiff a m c)

/-- The result of SBC as a number, by D (R175). -/
def difference : Bool → Byte → Byte → Bool → Nat
  | true, a, m, c => decimalDiff a m c
  | false, a, m, c => binaryDiff a m c

theorem subDigit_lt (k : Int) : subDigit k < 16 := by
  simp only [subDigit]
  omega

theorem decimalDiff_lt (a m : Byte) (c : Bool) : decimalDiff a m c < 256 := by
  have hhi := subDigit_lt (highDiff a m c)
  have hlo := subDigit_lt (lowDiff a m c)
  simp only [decimalDiff]
  omega

theorem subDigit_cast (k : Int) : (subDigit k : Int) = (if k < 0 then k - 6 else k) % 16 :=
  Int.toNat_of_nonneg (Int.emod_nonneg _ (by decide))

/-- The decimal difference on numbers, for every operand byte (R175). -/
theorem sbcDecimalValue_eq (a m : Byte) (c : Bool) : sbcDecimalValue a m c = BitVec.ofNat 8 (decimalDiff a m c) := by
  have hc := flagNat_le_one c
  have hlo : (lowNibble a : Int) - lowNibble m - (1 - flagNat c) = lowDiff a m c := by
    simp only [lowNibble, lowDiff, borrow]
    omega
  have hhi : (if lowDiff a m c < 0 then (highNibble a : Int) - highNibble m - 1 else highNibble a - highNibble m) =
      highDiff a m c := by
    simp only [highNibble, highDiff]
    split <;> omega
  rw [← BitVec.ofInt_natCast, decimalDiff]
  simp only [sbcDecimalValue, hlo, hhi, Int.natCast_add, Int.natCast_mul, subDigit_cast]
  rfl

theorem sbc_value (d : Bool) (a m : Byte) (c : Bool) : (sbc d a m c).value = BitVec.ofNat 8 (difference d a m c) := by
  cases d with
  | true => exact sbcDecimalValue_eq a m c
  | false =>
    have hm := m.isLt
    have hc : borrow c ≤ 1 := Nat.sub_le _ _
    have hvalue : (sbc false a m c).value = BitVec.ofNat 8 (binarySum a (m ^^^ 0xFF) c) := rfl
    rw [hvalue, binarySum_complement]
    apply BitVec.eq_of_toNat_eq
    simp only [BitVec.toNat_ofNat, difference, binaryDiff]
    omega

theorem sbc_value_toNat (d : Bool) (a m : Byte) (c : Bool) : (sbc d a m c).value.toNat = difference d a m c := by
  have hlt : difference d a m c < 256 := by
    cases d with
    | true => exact decimalDiff_lt a m c
    | false =>
      simp only [difference, binaryDiff]
      omega
  rw [sbc_value, BitVec.toNat_ofNat, Nat.mod_eq_of_lt hlt]

/-- SBC in either mode, on numbers (R175). -/
theorem subtractWithBorrow_eq (t : State) (m : Byte) :
    t.subtractWithBorrow m =
      { withNZ t (difference t.d t.a m t.c) with
        a := BitVec.ofNat 8 (difference t.d t.a m t.c)
        v := outOfRange (t.a.toInt - m.toInt - borrow t.c)
        c := decide (t.a.toNat ≥ m.toNat + borrow t.c) } := by
  rw [State.subtractWithBorrow, applyAlu_eq_withNZ, sbc_value_toNat, sbc_value, sbc_overflow, sbc_carry]

/-- The encodings of SBC (R174). -/
theorem sbc_readsAs {i : Instr} (h : i.mnemonic = .sbc) :
    ReadsAs i
      [⟨0xE9, .imm, 2, false⟩, ⟨0xE5, .zp, 3, false⟩, ⟨0xF5, .zpx, 4, false⟩, ⟨0xED, .abs, 4, false⟩,
       ⟨0xFD, .abx, 4, true⟩, ⟨0xF9, .aby, 4, true⟩, ⟨0xE1, .inx, 6, false⟩, ⟨0xF1, .iny, 5, true⟩]
      State.subtractWithBorrow := by
  cases i <;> cases h
  case sbcImm v => exact .row 0 (.imm v)
  case sbcZp b => exact .row 1 (.mem (.zp b))
  case sbcZpx b => exact .row 2 (.mem (.zpx b))
  case sbcAbs w => exact .row 3 (.mem (.abs w))
  case sbcAbx w => exact .row 4 (.mem (.abx w))
  case sbcAby w => exact .row 5 (.mem (.aby w))
  case sbcInx b => exact .row 6 (.mem (.inx b))
  case sbcIny b => exact .row 7 (.mem (.iny b))

/-- SBC in either mode, in every encoding: the operand's reads leave A, C and D as they were. -/
theorem sbc_runsAs {i : Instr} (h : i.mnemonic = .sbc) (s : State) :
    RunsAs i s
      [⟨0xE9, .imm, 2, false⟩, ⟨0xE5, .zp, 3, false⟩, ⟨0xF5, .zpx, 4, false⟩, ⟨0xED, .abs, 4, false⟩,
       ⟨0xFD, .abx, 4, true⟩, ⟨0xF9, .aby, 4, true⟩, ⟨0xE1, .inx, 6, false⟩, ⟨0xF1, .iny, 5, true⟩]
      { withNZ (afterReads s i.mode) (difference s.d s.a (operandByte s i.mode) s.c) with
        a := BitVec.ofNat 8 (difference s.d s.a (operandByte s i.mode) s.c)
        v := outOfRange (s.a.toInt - (operandByte s i.mode).toInt - borrow s.c)
        c := decide (s.a.toNat ≥ (operandByte s i.mode).toNat + borrow s.c) } := by
  have hrun := (sbc_readsAs h).runsAs s
  rw [subtractWithBorrow_eq] at hrun
  exact hrun

/-- Settles O20: SBC's difference with D = 0 is the binary one. -/
theorem sbcBinarySubtractsWithBorrow : Obligations.SbcBinarySubtractsWithBorrow := by
  intro i s h hd
  have hrun := sbc_runsAs h s
  rw [hd] at hrun
  exact hrun

/-- Settles O21: SBC's difference with D = 1 is the decimal one, while V and C do not depend on D. -/
theorem sbcDecimalSubtractsDigitByDigit : Obligations.SbcDecimalSubtractsDigitByDigit := by
  intro i s h hd
  have hrun := sbc_runsAs h s
  rw [hd] at hrun
  exact hrun

/-- A difference of two decimal digits and a borrow: its digit is the difference modulo 10. -/
theorem subDigit_eq_mod_ten {k : Int} (hlow : -10 ≤ k) (hhigh : k ≤ 9) : (subDigit k : Int) = k % 10 := by
  rw [subDigit_cast]
  split <;> omega

/-- Settles O22: both digits of a valid difference are decimal, and the bytes are ordered as their decimal numbers. -/
theorem decimalSubtractOfValidBcdIsTheTwoDigitDifference :
    Obligations.DecimalSubtractOfValidBcdIsTheTwoDigitDifference := by
  intro a m c ha hm
  rw [validBcd_iff] at ha hm
  have hc : borrow c ≤ 1 := Nat.sub_le _ _
  have hlo : -10 ≤ lowDiff a m c ∧ lowDiff a m c ≤ 9 := by
    simp only [lowDiff]
    omega
  have hhi : -10 ≤ highDiff a m c ∧ highDiff a m c ≤ 9 := by
    simp only [highDiff]
    split <;> omega
  have hdiff : (bcdValue a : Int) - bcdValue m - borrow c = highDiff a m c * 10 + lowDiff a m c % 10 := by
    have hdigits : (bcdValue a : Int) - bcdValue m - borrow c =
        ((a.toNat / 16 : Nat) - (m.toNat / 16 : Nat)) * 10 + lowDiff a m c := by
      simp only [bcdValue, lowDiff]
      omega
    simp only [highDiff]
    split <;> omega
  have hvalue : (sbc true a m c).value.toNat = decimalDiff a m c := sbc_value_toNat true a m c
  have hdlo := subDigit_eq_mod_ten hlo.1 hlo.2
  have hdhi := subDigit_eq_mod_ten hhi.1 hhi.2
  rw [decimalDiff] at hvalue
  refine ⟨?_, ?_, ?_⟩
  · rw [validBcd_iff, hvalue]
    omega
  · change _ = ((bcdValue a : Int) - bcdValue m - borrow c) % 100
    rw [bcdValue, hvalue, hdiff]
    omega
  · rw [sbc_carry, decide_eq_decide]
    change _ ↔ bcdValue a ≥ bcdValue m + borrow c
    simp only [bcdValue]
    omega

end Sys2Proof.Spec

/-! Bit test, shifts and rotates (43_logic_shift.md R193 to R198): each result on numbers, the two forms of a shift in
the spec's numbers, the encodings, and the two statements. -/

namespace Sys2Proof.Spec

open Machine

theorem getLsbD_seven (v : Byte) : v.getLsbD 7 = decide (v.toNat ≥ 128) := BitVec.msb_eq_decide v

theorem getLsbD_six (v : Byte) : v.getLsbD 6 = decide (v.toNat % 128 ≥ 64) := by
  rw [← bit_eq_getLsbD, bit, decide_eq_decide]
  omega

theorem getLsbD_zero (v : Byte) : v.getLsbD 0 = decide (v.toNat % 2 = 1) := by
  rw [← bit_eq_getLsbD, bit, decide_eq_decide]
  omega

/-- A byte is 0 exactly when none of its eight bits is set. -/
theorem beq_zero_eq_all (v : Byte) : (v == 0) = (List.range 8).all fun k => !v.getLsbD k := by
  rw [Bool.eq_iff_iff, beq_iff_eq, List.all_eq_true]
  constructor
  · rintro rfl k -
    simp
  · intro h
    refine BitVec.eq_of_getLsbD_eq fun k hk => ?_
    simpa using h k (List.mem_range.mpr hk)

theorem bitTest_eq (t : State) (m : Byte) :
    t.bitTest m =
      { t with
        z := (List.range 8).all fun k => !(t.a.getLsbD k && m.getLsbD k)
        n := decide (m.toNat ≥ 128)
        v := decide (m.toNat % 128 ≥ 64) } := by
  simp only [State.bitTest, beq_zero_eq_all, BitVec.getLsbD_and, getLsbD_seven, getLsbD_six]

/-- The encodings of BIT (R193). -/
theorem bit_readsAs {i : Instr} (h : i.mnemonic = .bit) :
    ReadsAs i [⟨0x24, .zp, 3, false⟩, ⟨0x2C, .abs, 4, false⟩] State.bitTest := by
  cases i <;> cases h
  case bitZp b => exact .row 0 (.mem (.zp b))
  case bitAbs w => exact .row 1 (.mem (.abs w))

/-- Settles O24: both encodings are read-type rows, and the operand's reads leave A as it was. -/
theorem bitTestsMemoryAgainstA : Obligations.BitTestsMemoryAgainstA := by
  intro i s h
  have hrun := (bit_readsAs h).runsAs s
  rw [bitTest_eq] at hrun
  exact hrun

/-- A shift or rotate of a byte is the mnemonic's on numbers: the result and the bit shifted out (R195 to R198). -/
def ShiftsOnNumbers (f : Byte → Bool → Byte × Bool) (op : Mnemonic) : Prop :=
  ∀ v c, (f v c).1.toNat = (shifted op v.toNat c).1 ∧ (f v c).2 = (shifted op v.toNat c).2

theorem shiftLeft_toNat (v : Byte) : (v <<< 1).toNat = 2 * v.toNat % 256 := by
  rw [BitVec.toNat_shiftLeft, Nat.shiftLeft_eq, Nat.mul_comm]

theorem ushiftRight_toNat (v : Byte) : (v >>> 1).toNat = v.toNat / 2 := by
  rw [BitVec.toNat_ushiftRight, Nat.shiftRight_eq_div_pow]

theorem setWidth_ofBool_toNat (c : Bool) : ((BitVec.ofBool c).setWidth 8).toNat = flagNat c := by
  cases c <;> rfl

theorem shiftLeft_onNumbers : ShiftsOnNumbers shiftLeft .asl :=
  fun v _ => ⟨shiftLeft_toNat v, getLsbD_seven v⟩

theorem shiftRight_onNumbers : ShiftsOnNumbers shiftRight .lsr :=
  fun v _ => ⟨ushiftRight_toNat v, getLsbD_zero v⟩

/-- The bit that comes in at the bottom is added (R197). -/
theorem rotateLeft_onNumbers : ShiftsOnNumbers rotateLeft .rol := by
  refine fun v c => ⟨?_, getLsbD_seven v⟩
  have hc := flagNat_le_one c
  have hshift : 2 * v.toNat % 256 = (v.toNat % 128) <<< 1 := by
    rw [Nat.shiftLeft_eq]
    omega
  rw [rotateLeft, BitVec.toNat_or, shiftLeft_toNat, setWidth_ofBool_toNat, shifted, hshift,
    Nat.shiftLeft_add_eq_or_of_lt (by omega)]

/-- The bit that comes in at the top is added as 128 (R198). -/
theorem rotateRight_onNumbers : ShiftsOnNumbers rotateRight .ror := by
  refine fun v c => ⟨?_, getLsbD_zero v⟩
  have hv := v.isLt
  have hc := flagNat_le_one c
  have htop : ((BitVec.ofBool c).setWidth 8 <<< 7).toNat = flagNat c <<< 7 := by cases c <;> rfl
  rw [rotateRight, BitVec.toNat_or, ushiftRight_toNat, htop, Nat.or_comm,
    ← Nat.shiftLeft_add_eq_or_of_lt (by omega), Nat.shiftLeft_eq, shifted]
  omega

/-- The accumulator form, on numbers (R194). -/
theorem shiftAcc_eq_shiftedAcc {f : Byte → Bool → Byte × Bool} {op : Mnemonic} (h : ShiftsOnNumbers f op) (s : State) :
    s.shiftAcc f = shiftedAcc s op := by
  obtain ⟨hvalue, hcarry⟩ := h s.a s.c
  rw [State.shiftAcc, setNZ_eq_withNZ, hvalue, hcarry, shiftedAcc]
  simp only [← hvalue, BitVec.ofNat_toNat, BitVec.setWidth_eq]
  rfl

/-- The memory form, on numbers: the operand's reads, one write, the flags and a fixed number of cycles (R194, R352). -/
theorem shiftMem_eq_spend {f : Byte → Bool → Byte × Bool} {op : Mnemonic} (h : ShiftsOnNumbers f op) (s : State)
    (m : MemMode) (base : Nat) : s.shiftMem m base f = spend base (shiftedMem s m op) := by
  obtain ⟨hvalue, hcarry⟩ := h (operandByte s (.mem m)) s.c
  calc s.shiftMem m base f
    _ = { s.modifyType m base (fun v => (f v s.c).1) State.noteResult with
          c := (f ((s.resolve m).after.answer (s.resolve m).ea) s.c).2 } := rfl
    _ = { spend base (modified s m (f (operandByte s (.mem m)) s.c).1.toNat) with
          c := (f (operandByte s (.mem m)) s.c).2 } := by
      have hbyte : (s.resolve m).after.answer (s.resolve m).ea = operandByte s (.mem m) := operand_value s (.mem m)
      rw [modifyType_noteResult_eq_spend, hbyte]
    _ = spend base (shiftedMem s m op) := by
      rw [hvalue, hcarry]
      rfl

/-- `i` is one of the listed encodings, of a shift `f` of memory; its cycles are fixed. -/
def ShiftsAs (i : Instr) (rows : List Row) (f : Byte → Bool → Byte × Bool) : Prop :=
  ∃ r ∈ rows, ∃ m : MemMode, i.opcode = r.opcode ∧ i.mode = .mem m ∧ i.mode.name = r.mode ∧ r.paged = false ∧
    ∀ s, exec i s = .next (s.shiftMem m r.base f)

/-- Entry `k` of the list is the encoding of `i`. -/
theorem ShiftsAs.row {i : Instr} {rows : List Row} {f : Byte → Bool → Byte × Bool} (k : Nat) (m : MemMode)
    (hk : k < rows.length := by decide)
    (hop : i.opcode = rows[k].opcode := by rfl)
    (hmode : i.mode = .mem m := by rfl)
    (hname : i.mode.name = rows[k].mode := by rfl)
    (hfixed : rows[k].paged = false := by rfl)
    (hexec : ∀ s, exec i s = .next (s.shiftMem m rows[k].base f) := by exact fun _ => rfl) :
    ShiftsAs i rows f :=
  ⟨rows[k], List.getElem_mem hk, m, hop, hmode, hname, hfixed, hexec⟩

theorem ShiftsAs.runsAs {i : Instr} {rows : List Row} {f : Byte → Bool → Byte × Bool} {op : Mnemonic}
    (h : ShiftsAs i rows f) (hf : ShiftsOnNumbers f op) (s : State) :
    ∃ m, i.mode = .mem m ∧ RunsAs i s rows (shiftedMem s m op) := by
  obtain ⟨r, hr, m, hop, hmode, hname, hfixed, hexec⟩ := h
  refine ⟨m, hmode, r, hr, hop, hname, ?_⟩
  simp [hexec, shiftMem_eq_spend hf, Row.cycles, hfixed]

/-- The encodings of ASL (R195). -/
theorem asl_shiftsAs {i : Instr} (h : i.mnemonic = .asl) :
    i = .aslAcc ∨ ShiftsAs i
      [⟨0x06, .zp, 5, false⟩, ⟨0x16, .zpx, 6, false⟩, ⟨0x0E, .abs, 6, false⟩, ⟨0x1E, .abx, 7, false⟩] shiftLeft := by
  cases i <;> cases h
  case aslAcc => exact .inl rfl
  case aslZp b => exact .inr (.row 0 (.zp b))
  case aslZpx b => exact .inr (.row 1 (.zpx b))
  case aslAbs w => exact .inr (.row 2 (.abs w))
  case aslAbx w => exact .inr (.row 3 (.abx w))

/-- The encodings of LSR (R196). -/
theorem lsr_shiftsAs {i : Instr} (h : i.mnemonic = .lsr) :
    i = .lsrAcc ∨ ShiftsAs i
      [⟨0x46, .zp, 5, false⟩, ⟨0x56, .zpx, 6, false⟩, ⟨0x4E, .abs, 6, false⟩, ⟨0x5E, .abx, 7, false⟩] shiftRight := by
  cases i <;> cases h
  case lsrAcc => exact .inl rfl
  case lsrZp b => exact .inr (.row 0 (.zp b))
  case lsrZpx b => exact .inr (.row 1 (.zpx b))
  case lsrAbs w => exact .inr (.row 2 (.abs w))
  case lsrAbx w => exact .inr (.row 3 (.abx w))

/-- The encodings of ROL (R197). -/
theorem rol_shiftsAs {i : Instr} (h : i.mnemonic = .rol) :
    i = .rolAcc ∨ ShiftsAs i
      [⟨0x26, .zp, 5, false⟩, ⟨0x36, .zpx, 6, false⟩, ⟨0x2E, .abs, 6, false⟩, ⟨0x3E, .abx, 7, false⟩] rotateLeft := by
  cases i <;> cases h
  case rolAcc => exact .inl rfl
  case rolZp b => exact .inr (.row 0 (.zp b))
  case rolZpx b => exact .inr (.row 1 (.zpx b))
  case rolAbs w => exact .inr (.row 2 (.abs w))
  case rolAbx w => exact .inr (.row 3 (.abx w))

/-- The encodings of ROR (R198). -/
theorem ror_shiftsAs {i : Instr} (h : i.mnemonic = .ror) :
    i = .rorAcc ∨ ShiftsAs i
      [⟨0x66, .zp, 5, false⟩, ⟨0x76, .zpx, 6, false⟩, ⟨0x6E, .abs, 6, false⟩, ⟨0x7E, .abx, 7, false⟩] rotateRight := by
  cases i <;> cases h
  case rorAcc => exact .inl rfl
  case rorZp b => exact .inr (.row 0 (.zp b))
  case rorZpx b => exact .inr (.row 1 (.zpx b))
  case rorAbs w => exact .inr (.row 2 (.abs w))
  case rorAbx w => exact .inr (.row 3 (.abx w))

/-- A shift of A: its one encoding, on numbers (R194). -/
theorem shiftAcc_runsAs {i : Instr} {f : Byte → Bool → Byte × Bool} {op : Mnemonic} (hf : ShiftsOnNumbers f op)
    (s : State) {code : Byte}
    (hexec : exec i s = .next (spend 2 (s.shiftAcc f)) := by rfl)
    (hop : i.opcode = code := by rfl)
    (hmode : i.mode = .acc := by rfl) :
    i.mode = .acc ∧ RunsAs i s [⟨code, .acc, 2, false⟩] (shiftedAcc s op) := by
  rw [shiftAcc_eq_shiftedAcc hf] at hexec
  exact ⟨hmode, .fixed hexec hop (congrArg Mode.name hmode)⟩

/-- Settles O25: each is the one accumulator encoding or a row of the memory form, on numbers. -/
theorem shiftsAndRotatesMoveOneBit : Obligations.ShiftsAndRotatesMoveOneBit := by
  refine fun i s => ⟨fun h => ?asl, fun h => ?lsr, fun h => ?rol, fun h => ?ror⟩
  case asl =>
    rcases asl_shiftsAs h with rfl | hmem
    · exact .inl (shiftAcc_runsAs shiftLeft_onNumbers s)
    · exact .inr (hmem.runsAs shiftLeft_onNumbers s)
  case lsr =>
    rcases lsr_shiftsAs h with rfl | hmem
    · exact .inl (shiftAcc_runsAs shiftRight_onNumbers s)
    · exact .inr (hmem.runsAs shiftRight_onNumbers s)
  case rol =>
    rcases rol_shiftsAs h with rfl | hmem
    · exact .inl (shiftAcc_runsAs rotateLeft_onNumbers s)
    · exact .inr (hmem.runsAs rotateLeft_onNumbers s)
  case ror =>
    rcases ror_shiftsAs h with rfl | hmem
    · exact .inl (shiftAcc_runsAs rotateRight_onNumbers s)
    · exact .inr (hmem.runsAs rotateRight_onNumbers s)

end Sys2Proof.Spec

/-! RESET and the host's other events (70_reset_and_hazards.md R340 to R346; 10_state.md R36, R37). -/

namespace Sys2Proof.Spec

open Machine

/-- Settles O12: the RESET sequence on the spec's reads, on eight drawn values. -/
theorem resetEventRunsTheResetSequence : Obligations.ResetEventRunsTheResetSequence := by
  intro s
  have hpc : pairAddr ((s.beginStep.afterRead 0xFFFC).answer 0xFFFD) (s.beginStep.answer 0xFFFC) =
      BitVec.ofNat 16 (wordAt (begun s) 0xFFFC 0xFFFD) := by
    rw [← BitVec.setWidth_eq (pairAddr _ _), ← BitVec.ofNat_toNat, ← wordAt_eq]
    rfl
  have hport : pairReads s.beginStep 0xFFFC 0xFFFD = readsAt (begun s) [0xFFFC, 0xFFFD] := pairReads_eq _ _ _
  refine ⟨s.resetEvent, rfl, ?_⟩
  rw [State.resetEvent, resetSequence_eq, hpc, hport]
  exact ⟨rfl, rfl, rfl, rfl, rfl, rfl, rfl, rfl, rfl, rfl, rfl, rfl, rfl⟩

/-- Settles O13: with nothing listed both vector bytes read as the unlisted byte. -/
theorem resetStateIsAResetSequenceResult : Obligations.ResetStateIsAResetSequenceResult := by
  intro s hhost hmem hpast hport hirq hnop hdraws
  have hread (t : State) (hh : t.host = .plainRam) (hm : t.mem = []) (w : Addr) : t.answer w = 0x00 := by
    rw [answer_plainRam hh, hm]
    rfl
  have hlo := hread s.beginStep hhost hmem 0xFFFC
  have hhi := hread (s.beginStep.afterRead 0xFFFC) hhost hmem 0xFFFD
  simp only [resetSequence_eq, pairReads, hlo, hhi]
  simp only [State.beginStep, hhost, hmem, hpast, hport, hirq, hnop, hdraws]
  rfl

/-- Settles O14: each event is the update of its one field. -/
theorem hostEventsTouchOnlyTheirInput : Obligations.HostEventsTouchOnlyTheirInput :=
  fun _ => ⟨_, rfl, rfl, rfl, fun _ => rfl, fun _ _ => rfl⟩

/-- Settles O48: nothing is listed, the reset cycles are all of CYC, and the core runs. -/
theorem resetMeetsTheInvariant : Obligations.ResetMeetsTheInvariant := rfl

end Sys2Proof.Spec

/-! Transfers and flags (48_stack_transfer.md R266 to R271; 49_flags_system.md R280 to R292), RTI in the spec's numbers,
and the resolver's statement (40_addressing.md). -/

namespace Sys2Proof.Spec

open Machine

/-- Settles O35: each transfer but TXS is a load of its destination, and TXS writes S alone. -/
theorem transfersCopyOneRegister : Obligations.TransfersCopyOneRegister := by
  intro s
  simp only [← loadA_eq_withNZ, ← loadX_eq_withNZ, ← loadY_eq_withNZ]
  exact ⟨.implied, .implied, .implied, .implied, .implied, .implied⟩

/-- Settles O36: each of the seven has one implied encoding and writes its flag. -/
theorem flagInstructionsWriteOneFlag : Obligations.FlagInstructionsWriteOneFlag :=
  fun _ => ⟨.implied, .implied, .implied, .implied, .implied, .implied, .implied⟩

/-- The flags are no part of what a pull reads, so they may be unpacked after it. -/
theorem unpack_pullAddr (t : State) (p : Byte) : (t.unpack p).pullAddr = (t.pullAddr.1, t.pullAddr.2.unpack p) := rfl

/-- Settles O39: three pulls in a row, the first unpacked and the others the exact PC. -/
theorem rtiRestoresFlagsAndExactAddress : Obligations.RtiRestoresFlagsAndExactAddress := by
  intro s
  have hexec : exec .rti s = .next (spend 6 s.returnFromInterrupt) := rfl
  rw [returnFromInterrupt_eq, pull_eq_stackByte, unpack_pullAddr, pullAddr_afterPulls, unpack_eq_unpacked] at hexec
  have hpc : pairAddr (stackByte s 3) (stackByte s 2) =
      BitVec.ofNat 16 ((stackByte s 3).toNat * 256 + (stackByte s 2).toNat) := by
    rw [← pairAddr_toNat, BitVec.ofNat_toNat, BitVec.setWidth_eq]
  exact .fixed (hpc ▸ hexec)

/-- Settles O40: the strap chooses between NOP and the stop. -/
theorem undocumentedOpcodeByTheStrap : Obligations.UndocumentedOpcodeByTheStrap := by
  intro s op
  have hexec : exec (.undoc op) s = .next (s.undocumented op s.undocNop) := rfl
  refine ⟨fun h => ?_, fun h => ?_⟩
  · rw [h] at hexec
    exact hexec
  · rw [h] at hexec
    exact hexec

/-- Settles O41: the three parts of what a mode yields, each proved with the resolver. -/
theorem modesResolveByTheSpecsArithmetic : Obligations.ModesResolveByTheSpecsArithmetic :=
  fun s m => ⟨resolve_ea_toNat s m, resolve_crossed s m, resolve_after_eq_afterReadsAt s m⟩

end Sys2Proof.Spec

/-! The round trips over the stack (47_jump_call.md, 48_stack_transfer.md section 1, 60_exceptions.md section 3): what
pushes leave in the stack cells, and the three statements. -/

namespace Sys2Proof.Spec

open Machine

/-- The one encoding of an instruction without a page penalty is what `exec` answers. -/
theorem RunsAs.exec_eq {i : Instr} {s t : State} {op : Byte} {mode : ModeName} {k : Nat}
    (h : RunsAs i s [⟨op, mode, k, false⟩] t) : exec i s = .next (spend k t) := by
  obtain ⟨r, hr, -, -, hexec⟩ := h
  obtain rfl := List.mem_singleton.mp hr
  exact hexec

theorem pushed_wf {s : State} (b : Byte) (h : s.mem.wf = true) : (pushed s b).mem.wf = true := by
  rw [← push_eq_pushed]
  exact push_wf h

theorem stackHeld_congr {s t : State} (hs : t.s = s.s) (hm : t.mem = s.mem) (k : Nat) :
    stackHeld t k = stackHeld s k := by
  rw [stackHeld, stackHeld, hs, hm]

/-- A pull after a push finds S one step lower down than without the two. -/
theorem pushed_s_add_succ (s : State) (b : Byte) (k : Nat) :
    BitVec.ofNat 8 ((pushed s b).s.toNat + (k + 1)) = BitVec.ofNat 8 (s.s.toNat + k) := by
  apply BitVec.eq_of_toNat_eq
  simp only [pushed, BitVec.toNat_ofNat]
  omega

theorem stackCell_pushed_succ (s : State) (b : Byte) (k : Nat) :
    stackCell ((pushed s b).s.toNat + (k + 1)) = stackCell (s.s.toNat + k) := by
  simp only [pushed, stackCell, BitVec.toNat_ofNat]
  omega

/-- The cell above the stack pointer holds the byte pushed. -/
theorem stackHeld_pushed_one {s : State} (b : Byte) (h : s.mem.wf = true) : stackHeld (pushed s b) 1 = b := by
  rw [stackHeld, stackCell_pushed_succ s b 0]
  exact Memory.read_write_same _ b h

/-- The cells above it hold what the cells above the stack pointer held before. -/
theorem stackHeld_pushed_succ (s : State) (b : Byte) {k : Nat} (h0 : 0 < k) (h : k < 256) :
    stackHeld (pushed s b) (k + 1) = stackHeld s k := by
  have hne : stackCell (s.s.toNat + k) ≠ stackCell s.s.toNat := by
    simp only [stackCell]
    omega
  rw [stackHeld, stackCell_pushed_succ]
  exact Memory.read_write_other _ b hne

/-- The two bytes of a 16-bit number make it. -/
theorem high_mul_add_low {w : Nat} (h : w < 65536) : (high w).toNat * 256 + (low w).toNat = w := by
  simp only [high, low, BitVec.toNat_ofNat]
  omega

/-- A status byte unpacked gives the flags of the state it was packed from. -/
theorem unpacked_packed_flags (t s : State) (b : Bool) :
    (unpacked t (packed s b)).n = s.n ∧ (unpacked t (packed s b)).v = s.v ∧ (unpacked t (packed s b)).d = s.d ∧
      (unpacked t (packed s b)).i = s.i ∧ (unpacked t (packed s b)).z = s.z ∧ (unpacked t (packed s b)).c = s.c := by
  have h : unpacked s (packed s b) = s := by rw [← unpack_eq_unpacked, ← pack_eq_packed, unpack_pack]
  have hn := congrArg State.n h
  have hv := congrArg State.v h
  have hd := congrArg State.d h
  have hi := congrArg State.i h
  have hz := congrArg State.z h
  have hc := congrArg State.c h
  exact ⟨hn, hv, hd, hi, hz, hc⟩

/-- The pull from the cell where a byte was pushed last brings it, and S comes back. -/
theorem pull_of_pushed {s t t' : State} {b : Byte} (hwf : s.mem.wf = true)
    (hs : t'.s = t.s) (h1 : stackByte t' 1 = stackHeld t 1)
    (htm : t.mem = (pushed s b).mem) (hts : t.s = (pushed s b).s) :
    stackByte t' 1 = b ∧ BitVec.ofNat 8 (t'.s.toNat + 1) = s.s := by
  constructor
  · rw [h1, stackHeld_congr hts htm, stackHeld_pushed_one b hwf]
  · rw [hs, hts, pushed_s_add_succ, Nat.add_zero, BitVec.ofNat_toNat, BitVec.setWidth_eq]

/-- The pulls from the cells where two bytes were pushed last bring them, the last one first, and S comes back. -/
theorem pulls_of_two_pushed {s t t' : State} {b1 b2 : Byte} (hwf : s.mem.wf = true)
    (hs : t'.s = t.s) (h1 : stackByte t' 1 = stackHeld t 1) (h2 : stackByte t' 2 = stackHeld t 2)
    (htm : t.mem = (pushed (pushed s b1) b2).mem) (hts : t.s = (pushed (pushed s b1) b2).s) :
    stackByte t' 1 = b2 ∧ stackByte t' 2 = b1 ∧ BitVec.ofNat 8 (t'.s.toNat + 2) = s.s := by
  refine ⟨?_, ?_, ?_⟩
  · rw [h1, stackHeld_congr hts htm, stackHeld_pushed_one b2 (pushed_wf b1 hwf)]
  · rw [h2, stackHeld_congr hts htm, stackHeld_pushed_succ _ b2 Nat.one_pos (by decide), stackHeld_pushed_one b1 hwf]
  · rw [hs, hts, pushed_s_add_succ, pushed_s_add_succ, Nat.add_zero, BitVec.ofNat_toNat, BitVec.setWidth_eq]

/-- The same for three bytes. -/
theorem pulls_of_three_pushed {s t t' : State} {b1 b2 b3 : Byte} (hwf : s.mem.wf = true)
    (hs : t'.s = t.s) (h1 : stackByte t' 1 = stackHeld t 1) (h2 : stackByte t' 2 = stackHeld t 2)
    (h3 : stackByte t' 3 = stackHeld t 3)
    (htm : t.mem = (pushed (pushed (pushed s b1) b2) b3).mem) (hts : t.s = (pushed (pushed (pushed s b1) b2) b3).s) :
    stackByte t' 1 = b3 ∧ stackByte t' 2 = b2 ∧ stackByte t' 3 = b1 ∧ BitVec.ofNat 8 (t'.s.toNat + 3) = s.s := by
  have hwf2 := pushed_wf b2 (pushed_wf b1 hwf)
  refine ⟨?_, ?_, ?_, ?_⟩
  · rw [h1, stackHeld_congr hts htm, stackHeld_pushed_one b3 hwf2]
  · rw [h2, stackHeld_congr hts htm, stackHeld_pushed_succ _ b3 Nat.one_pos (by decide),
      stackHeld_pushed_one b2 (pushed_wf b1 hwf)]
  · rw [h3, stackHeld_congr hts htm, stackHeld_pushed_succ _ b3 Nat.two_pos (by decide),
      stackHeld_pushed_succ _ b2 Nat.one_pos (by decide), stackHeld_pushed_one b1 hwf]
  · rw [hs, hts, pushed_s_add_succ, pushed_s_add_succ, pushed_s_add_succ, Nat.add_zero, BitVec.ofNat_toNat,
      BitVec.setWidth_eq]

/-- RTS undoes the pushes of a call: its pulls bring the two bytes of the address pushed (R252, R253). -/
theorem rts_undoes_call {s t t' : State} {w : Addr} {ret : Nat} (hwf : s.mem.wf = true) (hret : ret < 65536)
    (ht : t = spend 6 { pushed (pushed s (high ret)) (low ret) with pc := w }) (hs : t'.s = t.s)
    (h1 : stackByte t' 1 = stackHeld t 1) (h2 : stackByte t' 2 = stackHeld t 2) :
    ∃ u, exec .rts t' = .next u ∧ u.pc = BitVec.ofNat 16 (ret + 1) ∧ u.s = s.s := by
  subst ht
  obtain ⟨hlo, hhi, hsp⟩ := pulls_of_two_pushed (b1 := high ret) (b2 := low ret) hwf hs h1 h2 rfl rfl
  refine ⟨_, (rtsReturnsPastThePulledAddress t').exec_eq, ?_, ?_⟩
  · change BitVec.ofNat 16 ((stackByte t' 2).toNat * 256 + (stackByte t' 1).toNat + 1) = _
    rw [hlo, hhi, high_mul_add_low hret]
  · exact hsp

/-- Settles O43: JSR pushes its last byte's address, and RTS adds one to what it pulls. -/
theorem jsrThenRtsReturns : Obligations.JsrThenRtsReturns := by
  intro s w hwf
  have hret : BitVec.ofNat 16 ((s.pc.toNat + 65535) % 65536 + 1) = s.pc := by
    apply BitVec.eq_of_toNat_eq
    rw [BitVec.toNat_ofNat]
    omega
  refine ⟨_, (jsrPushesItsLastByteAddress s w).exec_eq, fun t' hs h1 h2 => ?_⟩
  have hrts := rts_undoes_call hwf (Nat.mod_lt _ (by decide)) rfl hs h1 h2
  rwa [hret] at hrts

/-- Settles O44: the pull brings the packed status byte, and unpacking undoes packing. -/
theorem phpThenPlpRestoresTheFlags : Obligations.PhpThenPlpRestoresTheFlags := by
  intro s hwf
  obtain ⟨-, hphp, -⟩ := pushesWriteAAndP s
  refine ⟨_, hphp.exec_eq, fun t' hs h1 => ?_⟩
  obtain ⟨hp, hsp⟩ := pull_of_pushed hwf hs h1 rfl rfl
  obtain ⟨-, hplp⟩ := pullsLoadAAndTheFlags t'
  refine ⟨_, hplp.exec_eq, ?_, ?_⟩
  · exact hsp
  · rw [hp]
    exact unpacked_packed_flags t' s true

/-- RTI undoes the one way into a handler: its pulls bring the three bytes pushed (R307, R309). -/
theorem rti_undoes_entered {s t t' : State} {vec ret : Nat} {b : Bool} (hwf : s.mem.wf = true) (hret : ret < 65536)
    (ht : t = spend 7 (entered s vec b ret)) (hs : t'.s = t.s)
    (h1 : stackByte t' 1 = stackHeld t 1) (h2 : stackByte t' 2 = stackHeld t 2) (h3 : stackByte t' 3 = stackHeld t 3) :
    ∃ u, exec .rti t' = .next u ∧ u.pc = BitVec.ofNat 16 ret ∧ u.s = s.s ∧
      u.n = s.n ∧ u.v = s.v ∧ u.d = s.d ∧ u.i = s.i ∧ u.z = s.z ∧ u.c = s.c := by
  subst ht
  obtain ⟨hp, hlo, hhi, hsp⟩ := pulls_of_three_pushed (b1 := high ret) (b2 := low ret) (b3 := packed s b)
    hwf hs h1 h2 h3 rfl rfl
  refine ⟨_, (rtiRestoresFlagsAndExactAddress t').exec_eq, ?_, ?_, ?_⟩
  · change BitVec.ofNat 16 ((stackByte t' 3).toNat * 256 + (stackByte t' 2).toNat) = _
    rw [hlo, hhi, high_mul_add_low hret]
  · exact hsp
  · rw [hp]
    exact unpacked_packed_flags t' s b

/-- Settles O45: all three entries are the shared one, which RTI undoes. -/
theorem rtiUndoesEveryHandlerEntry : Obligations.RtiUndoesEveryHandlerEntry := by
  intro s hwf
  have hpc : BitVec.ofNat 16 s.pc.toNat = s.pc := by rw [BitVec.ofNat_toNat, BitVec.setWidth_eq]
  refine ⟨⟨_, (brkEntersTheSharedVector s).exec_eq, fun t' hs h1 h2 h3 => ?_⟩, fun hr hint => ?_⟩
  · have hret : BitVec.ofNat 16 ((s.pc.toNat + 1) % 65536) = s.pc + 1 := by
      apply BitVec.eq_of_toNat_eq
      rw [BitVec.toNat_ofNat, BitVec.toNat_add]
      exact Nat.mod_mod _ _
    exact hret ▸ rti_undoes_entered hwf (Nat.mod_lt _ (by decide)) rfl hs h1 h2 h3
  · cases hn : s.nmiPending with
    | true =>
      refine ⟨_, pendingNmiIsServicedWhateverIIs s hr hn, fun t' hs h1 h2 h3 => ?_⟩
      have hrti := rti_undoes_entered (s := { begun s with nmiPending := false }) hwf s.pc.isLt rfl hs h1 h2 h3
      rwa [hpc] at hrti
    | false =>
      obtain ⟨hline, hi⟩ := hint.resolve_left (by simp [hn])
      refine ⟨_, unmaskedIrqIsServiced s hr hn hline hi, fun t' hs h1 h2 h3 => ?_⟩
      have hrti := rti_undoes_entered (s := begun s) hwf s.pc.isLt rfl hs h1 h2 h3
      rwa [hpc] at hrti

end Sys2Proof.Spec

/-! What `exec` does, by the shapes of Operands.lean: every instruction has one of a few shapes, said once, so that a
fact about every instruction is proved shape by shape. -/

namespace Sys2Proof.Spec

open Machine

/-- The action of a read-type mnemonic on its operand byte. -/
inductive ReadAction : Mnemonic → (State → Byte → State) → Prop
  | lda : ReadAction .lda State.loadA
  | ldx : ReadAction .ldx State.loadX
  | ldy : ReadAction .ldy State.loadY
  | adc : ReadAction .adc State.addWithCarry
  | sbc : ReadAction .sbc State.subtractWithBorrow
  | and : ReadAction .and State.andA
  | ora : ReadAction .ora State.orA
  | eor : ReadAction .eor State.eorA
  | bit : ReadAction .bit State.bitTest
  | cmp : ReadAction .cmp fun t m => t.compare t.a m
  | cpx : ReadAction .cpx fun t m => t.compare t.x m
  | cpy : ReadAction .cpy fun t m => t.compare t.y m

/-- The register that a write-type mnemonic stores. -/
inductive StoreSource : Mnemonic → (State → Byte) → Prop
  | sta : StoreSource .sta State.a
  | stx : StoreSource .stx State.x
  | sty : StoreSource .sty State.y

/-- The new byte and the flags of a read-modify-write mnemonic, by the state it began in. -/
inductive ModifyAction : Mnemonic → (State → Byte → Byte) → (State → State → Byte → Byte → State) → Prop
  | step {mn : Mnemonic} (f : Byte → Byte) (h : mn ∈ [.inc, .dec]) :
    ModifyAction mn (fun _ => f) (fun _ => State.noteResult)
  | shift {mn : Mnemonic} (f : Byte → Bool → Byte × Bool) (h : mn ∈ [.asl, .lsr, .rol, .ror]) :
    ModifyAction mn (fun s v => (f v s.c).1) (fun s t v r => (t.setC (f v s.c).2).setNZ r)

/-- The action of an instruction of two cycles that touches registers and flags alone. -/
inductive RegAction : Instr → (State → State) → Prop
  | inx : RegAction .inx fun s => s.loadX (s.x + 1)
  | dex : RegAction .dex fun s => s.loadX (s.x - 1)
  | iny : RegAction .iny fun s => s.loadY (s.y + 1)
  | dey : RegAction .dey fun s => s.loadY (s.y - 1)
  | tsx : RegAction .tsx fun s => s.loadX s.s
  | txs : RegAction .txs fun s => s.setS s.x
  | tax : RegAction .tax fun s => s.loadX s.a
  | tay : RegAction .tay fun s => s.loadY s.a
  | txa : RegAction .txa fun s => s.loadA s.x
  | tya : RegAction .tya fun s => s.loadA s.y
  | clc : RegAction .clc fun s => s.setC false
  | sec : RegAction .sec fun s => s.setC true
  | cli : RegAction .cli fun s => s.setI false
  | sei : RegAction .sei fun s => s.setI true
  | cld : RegAction .cld fun s => s.setD false
  | sed : RegAction .sed fun s => s.setD true
  | clv : RegAction .clv fun s => s.setV false
  | nop : RegAction .nop fun s => s
  | asl : RegAction .aslAcc fun s => s.shiftAcc shiftLeft
  | lsr : RegAction .lsrAcc fun s => s.shiftAcc shiftRight
  | rol : RegAction .rolAcc fun s => s.shiftAcc rotateLeft
  | ror : RegAction .rorAcc fun s => s.shiftAcc rotateRight

/-- The condition of a branch, with its offset. -/
inductive BranchOn : Instr → (State → Bool) → Byte → Prop
  | bpl (off : Byte) : BranchOn (.bpl off) (fun s => !s.n) off
  | bmi (off : Byte) : BranchOn (.bmi off) State.n off
  | bvc (off : Byte) : BranchOn (.bvc off) (fun s => !s.v) off
  | bvs (off : Byte) : BranchOn (.bvs off) State.v off
  | bcc (off : Byte) : BranchOn (.bcc off) (fun s => !s.c) off
  | bcs (off : Byte) : BranchOn (.bcs off) State.c off
  | bne (off : Byte) : BranchOn (.bne off) (fun s => !s.z) off
  | beq (off : Byte) : BranchOn (.beq off) State.z off

/-- The shapes of `exec`. -/
inductive Shape : Instr → Prop
  | read {i : Instr} (src : Source) (base : Nat) (pen : Penalty) {act : State → Byte → State}
    (haction : ReadAction i.mnemonic act) (hbase : 2 ≤ base ∧ base ≤ 6)
    (hexec : ∀ s, exec i s = .next (s.readType src base pen act)) : Shape i
  | write {i : Instr} (m : MemMode) (base : Nat) {reg : State → Byte}
    (hsource : StoreSource i.mnemonic reg) (hmode : i.mode = .mem m) (hbase : 2 ≤ base ∧ base ≤ 6)
    (hexec : ∀ s, exec i s = .next (s.writeType m base (reg s))) : Shape i
  | modify {i : Instr} (m : MemMode) (base : Nat) {f : State → Byte → Byte} {act : State → State → Byte → Byte → State}
    (haction : ModifyAction i.mnemonic f act) (hmode : i.mode = .mem m) (hbase : 2 ≤ base ∧ base ≤ 7)
    (hdirect : ∀ s, modeReads s m = [])
    (hexec : ∀ s, exec i s = .next (s.modifyType m base (f s) (act s))) : Shape i
  | reg {i : Instr} {act : State → State} (haction : RegAction i act) : Shape i
  | branch {i : Instr} {cond : State → Bool} {off : Byte} (hcond : BranchOn i cond off) : Shape i
  | jmpAbs (w : Addr) : Shape (.jmpAbs w)
  | jmpInd (w : Addr) : Shape (.jmpInd w)
  | jsr (w : Addr) : Shape (.jsr w)
  | rts : Shape .rts
  | pha : Shape .pha
  | pla : Shape .pla
  | php : Shape .php
  | plp : Shape .plp
  | brk : Shape .brk
  | rti : Shape .rti
  | undoc (op : Byte) : Shape (.undoc op)

theorem RegAction.exec_eq {i : Instr} {act : State → State} (h : RegAction i act) (s : State) :
    exec i s = .next ((act s).finish 2) := by
  cases h <;> rfl

theorem BranchOn.exec_eq {i : Instr} {cond : State → Bool} {off : Byte} (h : BranchOn i cond off) (s : State) :
    exec i s = .next (s.branch (cond s) off) := by
  cases h <;> rfl

theorem ReadsAs.shape {i : Instr} {rows : List Row} {act : State → Byte → State} (h : ReadsAs i rows act)
    (haction : ReadAction i.mnemonic act) (hrows : ∀ r ∈ rows, 2 ≤ r.base ∧ r.base ≤ 6 := by decide) : Shape i := by
  obtain ⟨r, hr, src, -, -, -, hexec⟩ := h
  exact .read src r.base r.penalty haction (hrows r hr) hexec

theorem WritesAs.shape {i : Instr} {rows : List Row} {reg : State → Byte} (h : WritesAs i rows reg)
    (hsource : StoreSource i.mnemonic reg) (hrows : ∀ r ∈ rows, 2 ≤ r.base ∧ r.base ≤ 6 := by decide) : Shape i := by
  obtain ⟨r, hr, m, -, hmode, -, -, hexec⟩ := h
  exact .write m r.base hsource hmode (hrows r hr) hexec

/-- The four modes of the read-modify-write encodings have no pointer. -/
theorem modeReads_eq_nil {m : MemMode} (h : (Mode.mem m).name ∈ [.zp, .zpx, .abs, .abx]) (s : State) :
    modeReads s m = [] := by
  cases m with
  | ind w => simp [Mode.name] at h
  | inx b => simp [Mode.name] at h
  | iny b => simp [Mode.name] at h
  | _ => rfl

theorem StepsAs.shape {i : Instr} {rows : List Row} {f : Byte → Byte} (h : StepsAs i rows f)
    (hmn : i.mnemonic ∈ [.inc, .dec])
    (hrows : ∀ r ∈ rows, (2 ≤ r.base ∧ r.base ≤ 7) ∧ r.mode ∈ [.zp, .zpx, .abs, .abx] := by decide) : Shape i := by
  obtain ⟨r, hr, m, -, hmode, hname, -, hexec⟩ := h
  obtain ⟨hbase, hrow⟩ := hrows r hr
  rw [← hname, hmode] at hrow
  exact .modify m r.base (.step f hmn) hmode hbase (modeReads_eq_nil hrow) hexec

theorem ShiftsAs.shape {i : Instr} {rows : List Row} {f : Byte → Bool → Byte × Bool} (h : ShiftsAs i rows f)
    (hmn : i.mnemonic ∈ [.asl, .lsr, .rol, .ror])
    (hrows : ∀ r ∈ rows, (2 ≤ r.base ∧ r.base ≤ 7) ∧ r.mode ∈ [.zp, .zpx, .abs, .abx] := by decide) : Shape i := by
  obtain ⟨r, hr, m, -, hmode, hname, -, hexec⟩ := h
  obtain ⟨hbase, hrow⟩ := hrows r hr
  rw [← hname, hmode] at hrow
  exact .modify m r.base (.shift f hmn) hmode hbase (modeReads_eq_nil hrow) hexec

/-- Every instruction has a shape. -/
theorem shape (i : Instr) : Shape i := by
  cases h : i.mnemonic
  case lda => exact (lda_readsAs h).shape (h ▸ .lda)
  case ldx => exact (ldx_readsAs h).shape (h ▸ .ldx)
  case ldy => exact (ldy_readsAs h).shape (h ▸ .ldy)
  case adc => exact (adc_readsAs h).shape (h ▸ .adc)
  case sbc => exact (sbc_readsAs h).shape (h ▸ .sbc)
  case and => exact (and_readsAs h).shape (h ▸ .and)
  case ora => exact (ora_readsAs h).shape (h ▸ .ora)
  case eor => exact (eor_readsAs h).shape (h ▸ .eor)
  case bit => exact (bit_readsAs h).shape (h ▸ .bit)
  case cmp => exact (cmp_readsAs h).shape (h ▸ .cmp)
  case cpx => exact (cpx_readsAs h).shape (h ▸ .cpx)
  case cpy => exact (cpy_readsAs h).shape (h ▸ .cpy)
  case sta => exact (sta_writesAs h).shape (h ▸ .sta)
  case stx => exact (stx_writesAs h).shape (h ▸ .stx)
  case sty => exact (sty_writesAs h).shape (h ▸ .sty)
  case inc => exact (inc_stepsAs h).shape (by simp [h])
  case dec => exact (dec_stepsAs h).shape (by simp [h])
  case asl =>
    rcases asl_shiftsAs h with rfl | hmem
    · exact .reg .asl
    · exact hmem.shape (by simp [h])
  case lsr =>
    rcases lsr_shiftsAs h with rfl | hmem
    · exact .reg .lsr
    · exact hmem.shape (by simp [h])
  case rol =>
    rcases rol_shiftsAs h with rfl | hmem
    · exact .reg .rol
    · exact hmem.shape (by simp [h])
  case ror =>
    rcases ror_shiftsAs h with rfl | hmem
    · exact .reg .ror
    · exact hmem.shape (by simp [h])
  case jmp =>
    cases i <;> cases h
    case jmpAbs w => exact .jmpAbs w
    case jmpInd w => exact .jmpInd w
  all_goals cases i <;> cases h
  case inx => exact .reg .inx
  case dex => exact .reg .dex
  case iny => exact .reg .iny
  case dey => exact .reg .dey
  case tsx => exact .reg .tsx
  case txs => exact .reg .txs
  case tax => exact .reg .tax
  case tay => exact .reg .tay
  case txa => exact .reg .txa
  case tya => exact .reg .tya
  case clc => exact .reg .clc
  case sec => exact .reg .sec
  case cli => exact .reg .cli
  case sei => exact .reg .sei
  case cld => exact .reg .cld
  case sed => exact .reg .sed
  case clv => exact .reg .clv
  case nop => exact .reg .nop
  case bpl off => exact .branch (.bpl off)
  case bmi off => exact .branch (.bmi off)
  case bvc off => exact .branch (.bvc off)
  case bvs off => exact .branch (.bvs off)
  case bcc off => exact .branch (.bcc off)
  case bcs off => exact .branch (.bcs off)
  case bne off => exact .branch (.bne off)
  case beq off => exact .branch (.beq off)
  case jsr w => exact .jsr w
  case rts => exact .rts
  case pha => exact .pha
  case pla => exact .pla
  case php => exact .php
  case plp => exact .plp
  case brk => exact .brk
  case rti => exact .rti
  case undoc op => exact .undoc op

end Sys2Proof.Spec

/-! The accesses of an instruction, said once: a run goes from a state to another by registers, reads and writes. Facts
about memory, the port, the history and the host's inputs are inductions over runs (20_memory.md R61, R74). -/

namespace Sys2Proof.Spec

open Machine

/-- `u` has the inputs, the run state, CYC and the history of `t`. -/
structure SameInputs (t u : State) : Prop where
  nmiPending : u.nmiPending = t.nmiPending := by rfl
  irqLine : u.irqLine = t.irqLine := by rfl
  undocNop : u.undocNop = t.undocNop := by rfl
  rs : u.rs = t.rs := by rfl
  cyc : u.cyc = t.cyc := by rfl
  host : u.host = t.host := by rfl
  past : u.past = t.past := by rfl
  draws : u.draws = t.draws := by rfl

/-- `u` differs from `t` in registers and flags at most. -/
structure SameOutside (t u : State) : Prop extends SameInputs t u where
  port : u.port = t.port := by rfl
  mem : u.mem = t.mem := by rfl

theorem SameInputs.refl (t : State) : SameInputs t t := {}

theorem SameInputs.trans {s t u : State} (h : SameInputs s t) (h' : SameInputs t u) : SameInputs s u :=
  ⟨h'.nmiPending.trans h.nmiPending, h'.irqLine.trans h.irqLine, h'.undocNop.trans h.undocNop, h'.rs.trans h.rs,
    h'.cyc.trans h.cyc, h'.host.trans h.host, h'.past.trans h.past, h'.draws.trans h.draws⟩

/-- `t` is reached from `s` by the accesses `as`, oldest first, with registers and flags changed in between: each read
brings what the host answers then (R61, R74). -/
inductive Run (s : State) : List Access → State → Prop
  | start : Run s [] s
  | regs {as : List Access} {t u : State} (h : Run s as t) (hsame : SameOutside t u) : Run s as u
  | read {as : List Access} {t : State} (h : Run s as t) (w : Addr) :
    Run s (as ++ [⟨.read, w, t.answer w⟩]) (t.afterRead w)
  | write {as : List Access} {t : State} (h : Run s as t) (w : Addr) (v : Byte) :
    Run s (as ++ [⟨.write, w, v⟩]) (t.memWrite w v)

theorem Run.trans {s t u : State} {as bs : List Access} (h : Run s as t) (h' : Run t bs u) : Run s (as ++ bs) u := by
  induction h' with
  | start => rwa [List.append_nil]
  | regs _ hsame ih => exact ih.regs hsame
  | read _ w ih => exact List.append_assoc .. ▸ ih.read w
  | write _ w v ih => exact List.append_assoc .. ▸ ih.write w v

/-! ### What a run keeps and what it changes -/

theorem Run.sameInputs {s t : State} {as : List Access} (h : Run s as t) : SameInputs s t := by
  induction h with
  | start => exact .refl s
  | regs _ hsame ih => exact ih.trans hsame.toSameInputs
  | read _ w ih => exact ih.trans {}
  | write _ w v ih => exact ih.trans {}

theorem Run.port_eq {s t : State} {as : List Access} (h : Run s as t) : t.port = s.port ++ as := by
  induction h with
  | start => exact (List.append_nil _).symm
  | regs _ hsame ih => exact hsame.port.trans ih
  | read _ w ih => rw [afterRead_port, ih, List.append_assoc]
  | write _ w v ih => rw [memWrite_port, ih, List.append_assoc]

/-- The bytes last written are changed by the run's writes, in order, and by nothing else. -/
theorem Run.mem_eq {s t : State} {as : List Access} (h : Run s as t) : t.mem = writtenBy s.mem as := by
  induction h with
  | start => rfl
  | regs _ hsame ih => exact hsame.mem.trans ih
  | read _ w ih =>
    rw [afterRead_mem, ih, writtenBy_append]
    rfl
  | write _ w v ih =>
    rw [memWrite_mem, ih, writtenBy_append]
    rfl

/-- One more access after some: an access picked from all of them is the last one, or was there before. -/
theorem pick_of_concat {as before after : List Access} {x q : Access} (h : as ++ [x] = before ++ q :: after) :
    (as = before ∧ x = q) ∨ ∃ after', as = before ++ q :: after' := by
  rcases List.eq_nil_or_concat after with rfl | ⟨after', y, rfl⟩
  · obtain ⟨has, hx⟩ := List.append_inj' h rfl
    exact .inl ⟨has, List.singleton_inj.mp hx⟩
  · rw [List.concat_eq_append, ← List.cons_append, ← List.append_assoc] at h
    exact .inr ⟨after', (List.append_inj' h rfl).1⟩

/-- Each read of a run was answered in the state that the accesses before it led to. -/
theorem Run.read_answered {s t : State} {as before after : List Access} {q : Access} (h : Run s as t)
    (has : as = before ++ q :: after) (hq : q.direction = .read) : ∃ u, Run s before u ∧ q.data = u.answer q.addr := by
  induction h generalizing after with
  | start => simp at has
  | regs _ _ ih => exact ih has
  | read h w ih =>
    rcases pick_of_concat has with ⟨rfl, rfl⟩ | ⟨after', has'⟩
    · exact ⟨_, h, rfl⟩
    · exact ih has'
  | write h w v ih =>
    rcases pick_of_concat has with ⟨rfl, rfl⟩ | ⟨after', has'⟩
    · cases hq
    · exact ih has'

/-- Writes keep the canonical form of memory. -/
theorem writtenBy_wf {m : Memory} (as : List Access) (h : m.wf = true) : (writtenBy m as).wf = true := by
  induction as generalizing m with
  | nil => exact h
  | cons q as ih =>
    refine ih ?_
    split
    · exact Memory.wf_write h q.addr.isLt
    · exact h

/-- An address that no write names keeps its byte. -/
theorem writtenBy_read_other {m : Memory} {as : List Access} {k : Nat}
    (h : ∀ q ∈ as, q.direction = .write → q.addr.toNat ≠ k) : (writtenBy m as).read k = m.read k := by
  induction as generalizing m with
  | nil => rfl
  | cons q as ih =>
    rw [writtenBy, ih fun p hp => h p (List.mem_cons_of_mem q hp)]
    split
    · exact Memory.read_write_other _ _ (h q List.mem_cons_self ‹_›).symm
    · rfl

/-! ### The runs of the shared operations -/

theorem Run.setPc {s t : State} {as : List Access} (h : Run s as t) (w : Addr) : Run s as (t.setPc w) :=
  h.regs {}

theorem Run.push {s t : State} {as : List Access} (h : Run s as t) (v : Byte) :
    Run s (as ++ [⟨.write, stackAddr t.s, v⟩]) (t.push v) :=
  (h.write (stackAddr t.s) v).regs {}

theorem Run.pull {s t : State} {as : List Access} (h : Run s as t) :
    Run s (as ++ [⟨.read, stackAddr (t.s + 1), t.answer (stackAddr (t.s + 1))⟩]) t.pull.2 :=
  (h.regs (u := t.setS (t.s + 1)) {}).read (stackAddr (t.s + 1))

theorem Run.unpack {s t : State} {as : List Access} (h : Run s as t) (p : Byte) : Run s as (t.unpack p) :=
  h.regs {}

theorem Run.readPair {s t : State} {as : List Access} (h : Run s as t) (w w' : Addr) :
    Run s (as ++ pairReads t w w') (t.readPair w w').2 :=
  h.trans ((Run.start.read w).read w')

theorem Run.resolve (s : State) (m : MemMode) : Run s (modeReads s m) (s.resolve m).after := by
  cases m with
  | ind w => exact Run.start.readPair _ _
  | inx b => exact Run.start.readPair _ _
  | iny b => exact Run.start.readPair _ _
  | _ => exact .start

/-- The accesses that bring the operand of a source in. -/
def sourceReads (s : State) : Source → List Access
  | .imm _ => []
  | .mem m => modeReads s m ++ [⟨.read, (s.resolve m).ea, (s.resolve m).after.answer (s.resolve m).ea⟩]

theorem Run.operand (s : State) (src : Source) : Run s (sourceReads s src) (s.operand src).after := by
  cases src with
  | imm v => exact .start
  | mem m => exact (Run.resolve s m).read (s.resolve m).ea

/-- The accesses of an entry into a handler: three pushes and the vector's two bytes (R307). -/
theorem Run.interrupt (s : State) (vec : Addr) (b : Bool) (ret : Addr) :
    ∃ as, Run s as (s.interrupt vec b ret) ∧ as.length = 5 ∧
      ∀ q ∈ as, q.direction = .write → q.addr ∈ [stackAddr s.s, stackAddr (s.s - 1), stackAddr (s.s - 2)] := by
  have hpushes : Run s _ ((s.pushAddr ret).push (s.pack b)) :=
    ((Run.start.push (hiByte ret)).push (loByte ret)).push (s.pack b)
  have hmasked := hpushes.regs (u := ((s.pushAddr ret).push (s.pack b)).setI true) {}
  refine ⟨_, (hmasked.readPair vec (vec + 1)).setPc _, rfl, ?_⟩
  simp [pairReads, BitVec.sub_sub]

/-! ### The run of every instruction -/

theorem ReadAction.sameOutside {mn : Mnemonic} {act : State → Byte → State} (h : ReadAction mn act) (t : State)
    (m : Byte) : SameOutside t (act t m) := by
  cases h <;> exact {}

theorem ModifyAction.sameOutside {mn : Mnemonic} {f : State → Byte → Byte} {act : State → State → Byte → Byte → State}
    (h : ModifyAction mn f act) (s t : State) (v r : Byte) : SameOutside t (act s t v r) := by
  cases h <;> exact {}

theorem RegAction.sameOutside {i : Instr} {act : State → State} (h : RegAction i act) (s : State) :
    SameOutside s (act s) := by
  cases h <;> exact {}

theorem StoreSource.storedTo_eq {i : Instr} {reg : State → Byte} (h : StoreSource i.mnemonic reg) {m : MemMode}
    (hmode : i.mode = .mem m) (s : State) : storedTo i s = [(s.resolve m).ea] := by
  generalize hmn : i.mnemonic = mn at h
  cases h <;> simp [storedTo, hmn, hmode]

theorem ModifyAction.storedTo_eq {i : Instr} {f : State → Byte → Byte} {act : State → State → Byte → Byte → State}
    (h : ModifyAction i.mnemonic f act) {m : MemMode} (hmode : i.mode = .mem m) (s : State) :
    storedTo i s = [(s.resolve m).ea] := by
  generalize hmn : i.mnemonic = mn at h
  cases h with
  | step f hmem =>
    simp only [List.mem_cons, List.not_mem_nil, or_false] at hmem
    rcases hmem with rfl | rfl <;> simp [storedTo, hmn, hmode]
  | shift f hmem =>
    simp only [List.mem_cons, List.not_mem_nil, or_false] at hmem
    rcases hmem with rfl | rfl | rfl | rfl <;> simp [storedTo, hmn, hmode]

theorem modeReads_direction (s : State) (m : MemMode) : ∀ q ∈ modeReads s m, q.direction = .read := by
  cases m <;> simp [modeReads, pairReads]

theorem modeReads_length_le (s : State) (m : MemMode) : (modeReads s m).length ≤ 2 := by
  cases m <;> simp [modeReads, pairReads]

theorem sourceReads_direction (s : State) (src : Source) : ∀ q ∈ sourceReads s src, q.direction = .read := by
  cases src with
  | imm v => simp [sourceReads]
  | mem m =>
    intro q hq
    rcases List.mem_append.mp hq with hq | hq
    · exact modeReads_direction s m q hq
    · rw [List.mem_singleton.mp hq]

theorem sourceReads_length_le (s : State) (src : Source) : (sourceReads s src).length ≤ 3 := by
  cases src with
  | imm v => exact Nat.zero_le 3
  | mem m =>
    rw [sourceReads, List.length_append]
    exact Nat.add_le_add_right (modeReads_length_le s m) 1

/-- What `exec` does on an instruction that does not stop the core: a run to `u`, then `k` cycles spent (R350). -/
structure Effect (i : Instr) (s : State) (as : List Access) (u : State) (k : Nat) : Prop where
  exec_eq : exec i s = .next (u.finish k)
  run : Run s as u
  length_le : as.length + i.mode.name.length ≤ 6
  stores : ∀ q ∈ as, q.direction = .write → q.addr ∈ storedTo i s
  cycles : 2 ≤ k ∧ k ≤ 7

/-- Three accesses and the bytes of any instruction are six at most. -/
theorem Effect.of_length_le {i : Instr} {s u : State} {as : List Access} {k : Nat}
    (hexec : exec i s = .next (u.finish k)) (hrun : Run s as u) (hlen : as.length ≤ 3)
    (hstores : ∀ q ∈ as, q.direction = .write → q.addr ∈ storedTo i s) (hk : 2 ≤ k ∧ k ≤ 7) : Effect i s as u k :=
  ⟨hexec, hrun, Nat.add_le_add hlen (Laws.LengthFromMode.length_le _), hstores, hk⟩

/-- Reads store nowhere. -/
theorem Effect.of_reads {i : Instr} {s u : State} {as : List Access} {k : Nat} (hexec : exec i s = .next (u.finish k))
    (hrun : Run s as u) (hlen : as.length ≤ 3) (hreads : ∀ q ∈ as, q.direction = .read) (hk : 2 ≤ k ∧ k ≤ 7) :
    Effect i s as u k :=
  .of_length_le hexec hrun hlen (fun q hq hw => by simp [hreads q hq] at hw) hk

theorem Penalty.cycles_le (p : Penalty) (crossed : Bool) : p.cycles crossed ≤ 1 := by
  cases p <;> cases crossed <;> decide

/-- A branch goes somewhere and spends 2 to 4 cycles (R230, R231). -/
theorem branch_eq_finish (s : State) (cond : Bool) (off : Byte) :
    ∃ w k, s.branch cond off = (s.setPc w).finish k ∧ 2 ≤ k ∧ k ≤ 7 := by
  cases cond with
  | false => exact ⟨s.pc, 2, rfl, by decide⟩
  | true => exact ⟨branchTarget s.pc off, _, rfl, by split <;> decide⟩

/-- Every instruction either has an effect with its cycles spent, or is an undocumented opcode that stops the core. -/
theorem exec_cases (i : Instr) (s : State) :
    (∃ as u k, Effect i s as u k) ∨
      ∃ op, i = .undoc op ∧ s.undocNop = false ∧ exec i s = .next ({ s with rs := .stopped op }.finish 0) := by
  cases shape i with
  | read src base pen haction hbase hexec =>
    have hpen := Penalty.cycles_le pen (s.operand src).crossed
    exact .inl ⟨_, _, _, .of_reads (hexec s) ((Run.operand s src).regs (haction.sameOutside _ _))
      (sourceReads_length_le s src) (sourceReads_direction s src) (by omega)⟩
  | write m base hsource hmode hbase hexec =>
    refine .inl ⟨_, _, _, .of_length_le (hexec s) ((Run.resolve s m).write _ _) ?_ ?_ (by omega)⟩
    · rw [List.length_append]
      exact Nat.add_le_add_right (modeReads_length_le s m) 1
    · rw [hsource.storedTo_eq hmode]
      intro q hq hw
      rcases List.mem_append.mp hq with hq | hq
      · simp [modeReads_direction s m q hq] at hw
      · simp [List.mem_singleton.mp hq]
  | modify m base haction hmode hbase hdirect hexec =>
    refine .inl ⟨_, _, _, .of_length_le (hexec s)
      ((((Run.resolve s m).read _).write _ _).regs (haction.sameOutside s _ _ _)) ?_ ?_ hbase⟩
    · simp [hdirect]
    · rw [haction.storedTo_eq hmode]
      simp [hdirect]
  | reg haction =>
    exact .inl ⟨_, _, _, .of_reads (haction.exec_eq s) (Run.start.regs (haction.sameOutside s)) (by simp) (by simp)
      (by decide)⟩
  | branch hcond =>
    rename_i cond off
    obtain ⟨w, k, hbranch, hk⟩ := branch_eq_finish s (cond s) off
    exact .inl ⟨_, _, k, .of_reads (hbranch ▸ hcond.exec_eq s) (Run.start.setPc w) (by simp) (by simp) hk⟩
  | jmpAbs w =>
    exact .inl ⟨_, _, 3, .of_reads rfl ((Run.resolve s (.abs w)).setPc _) (by simp [modeReads])
      (modeReads_direction s _) (by decide)⟩
  | jmpInd w =>
    exact .inl ⟨_, _, 5, .of_reads rfl ((Run.resolve s (.ind w)).setPc _) (by simp [modeReads, pairReads])
      (modeReads_direction s _) (by decide)⟩
  | jsr w =>
    have hpushes := (Run.start (s := s).push (hiByte (s.pc - 1))).push (loByte (s.pc - 1))
    exact .inl ⟨_, _, 6, .of_length_le rfl (hpushes.setPc w) (by simp) (by simp [storedTo, Instr.mnemonic])
      (by decide)⟩
  | rts => exact .inl ⟨_, _, 6, .of_reads rfl (Run.start.pull.pull.setPc _) (by simp) (by simp) (by decide)⟩
  | pha =>
    exact .inl ⟨_, _, 3, .of_length_le rfl (Run.start.push s.a) (by simp) (by simp [storedTo, Instr.mnemonic])
      (by decide)⟩
  | php =>
    exact .inl ⟨_, _, 3, .of_length_le rfl (Run.start.push (s.pack true)) (by simp)
      (by simp [storedTo, Instr.mnemonic]) (by decide)⟩
  | pla =>
    exact .inl ⟨_, _, 4, .of_reads rfl (Run.start.pull.regs (ReadAction.lda.sameOutside _ s.pull.1)) (by simp) (by simp)
      (by decide)⟩
  | plp => exact .inl ⟨_, _, 4, .of_reads rfl (Run.start.pull.unpack s.pull.1) (by simp) (by simp) (by decide)⟩
  | brk =>
    obtain ⟨as, hrun, hlen, hstores⟩ := Run.interrupt s irqVector true (s.pc + 1)
    exact .inl ⟨as, _, 7, rfl, hrun, by rw [hlen]; decide, hstores, by decide⟩
  | rti =>
    exact .inl ⟨_, _, 6, .of_reads rfl ((Run.start.pull.unpack s.pull.1).pull.pull.setPc _) (by simp) (by simp)
      (by decide)⟩
  | undoc op =>
    obtain ⟨hnop, hstop⟩ := undocumentedOpcodeByTheStrap s op
    rcases Bool.eq_false_or_eq_true s.undocNop with h | h
    · exact .inl ⟨_, _, 2, .of_reads (hnop h) .start (by simp) (by simp) (by decide)⟩
    · exact .inr ⟨op, rfl, h, hstop h⟩

end Sys2Proof.Spec

/-! The run of a step (60_exceptions.md R300 to R306), and what follows of every step: memory and the port, the reads,
the cycles, the host's inputs, the stop and the invariant. -/

namespace Sys2Proof.Spec

open Machine

/-- A fetch of `n` bytes is their reads and PC. -/
theorem Run.afterFetch (s : State) (n : Nat) : Run s (readsAt s (fetchCells s n)) (afterFetch s n) := by
  induction n with
  | zero =>
    rw [afterFetch_zero]
    exact .start
  | succ n ih =>
    rw [readsAt_fetchCells_succ, afterFetch_succ]
    exact (ih.read _).regs {}

/-- The accesses that fetch an instruction, as many as its bytes (R75). -/
def fetchReads (s : State) : List Access := readsAt s (fetchCells s s.fetchInstr.1.mode.name.length)

theorem fetchInstr_snd (s : State) : s.fetchInstr.2 = afterFetch s s.fetchInstr.1.mode.name.length := by
  rw [fetchInstr_eq_fill, mode_length_fill_formatOf]

theorem Run.fetchInstr (s : State) : Run s (fetchReads s) s.fetchInstr.2 :=
  fetchInstr_snd s ▸ .afterFetch s _

theorem fetchReads_length (s : State) : (fetchReads s).length = s.fetchInstr.1.mode.name.length := by
  simp [fetchReads, readsAt_length, fetchCells]

/-- The state a step's run starts from: its transactions begin, and a pending NMI is taken (R74, R305). -/
def stepStart (s : State) : State := { s.beginStep with nmiPending := false }

theorem stepStart_eq {s : State} (h : s.nmiPending = false) : stepStart s = s.beginStep := by
  rw [stepStart, ← h]
  rfl

/-- A step that answers a next state stops the core on the undocumented opcode it fetched, with the strap false. -/
structure Stops (s : State) (op : Byte) (t : State) : Prop where
  fetched : s.beginStep.fetchInstr.1 = .undoc op
  strap : s.undocNop = false
  next_eq : t = { s.beginStep.fetchInstr.2 with rs := .stopped op }.finish 0

/-- What a step that answers a next state does: a run of six accesses at most, then `k` cycles spent, and the core runs
on or stops (R300, R302, R315). -/
structure StepEffect (s t : State) (as : List Access) (u : State) (k : Nat) : Prop where
  running : s.rs = .running
  run : Run (stepStart s) as u
  length_le : as.length ≤ 6
  next_eq : t = { u with rs := t.rs }.finish k
  stop : t.rs = .running ∨ ∃ op, Stops s op t

theorem finish_eq_with_rs (u : State) (k : Nat) : u.finish k = { u with rs := (u.finish k).rs }.finish k := rfl

/-- A service is one run and seven cycles, and the core runs on (R305, R306). -/
theorem StepEffect.of_service {s : State} (hr : s.rs = .running) (vec : Addr) :
    ∃ as u k, StepEffect s (((stepStart s).interrupt vec false s.pc).finish 7) as u k := by
  obtain ⟨as, hrun, hlen, -⟩ := Run.interrupt (stepStart s) vec false s.pc
  exact ⟨as, _, 7, hr, hrun, by omega, finish_eq_with_rs _ 7, .inl (hrun.sameInputs.rs.trans hr)⟩

theorem step_effect {s t : State} (h : step s = .next t) : ∃ as u k, StepEffect s t as u k := by
  obtain ⟨hr, ⟨-, rfl⟩ | ⟨hn, -, rfl⟩ | ⟨hn, -, hexec⟩⟩ := step_cases h
  · exact StepEffect.of_service hr nmiVector
  · have hirq := StepEffect.of_service hr irqVector
    rw [stepStart_eq hn] at hirq
    exact hirq
  · have hlen := fetchReads_length s.beginStep
    have hfetch : Run (stepStart s) (fetchReads s.beginStep) s.beginStep.fetchInstr.2 := by
      rw [stepStart_eq hn]
      exact .fetchInstr _
    rcases exec_cases s.beginStep.fetchInstr.1 s.beginStep.fetchInstr.2 with
      ⟨as, u, k, heffect⟩ | ⟨op, hop, hstrap, hstop⟩
    · obtain rfl := Host.Outcome.next.inj (hexec.symm.trans heffect.exec_eq)
      have hrun := hfetch.trans heffect.run
      refine ⟨_, u, k, hr, hrun, ?_, finish_eq_with_rs u k, .inl (hrun.sameInputs.rs.trans hr)⟩
      rw [List.length_append, hlen, Nat.add_comm]
      exact heffect.length_le
    · obtain rfl := Host.Outcome.next.inj (hexec.symm.trans hstop)
      refine ⟨_, _, 0, hr, hfetch, ?_, rfl, .inr ⟨op, hop, ?_, rfl⟩⟩
      · rw [hlen]
        exact (Laws.LengthFromMode.length_le _).trans (by decide)
      · exact hfetch.sameInputs.undocNop.symm.trans hstrap

/-! ### The statements about every step and every instruction -/

/-- Settles O11: an instruction answers by its effect or by the stop, and a step in Running by one of its three ways. -/
theorem everyInstructionAnswersANextState : Obligations.EveryInstructionAnswersANextState := by
  have hexec (i : Instr) (s : State) : ∃ t, exec i s = .next t := by
    rcases exec_cases i s with ⟨_, u, k, heffect⟩ | ⟨op, -, -, hstop⟩
    · exact ⟨_, heffect.exec_eq⟩
    · exact ⟨_, hstop⟩
  refine ⟨hexec, fun s hr => ?_⟩
  cases hn : s.nmiPending with
  | true => exact ⟨_, step_eq_serviceNmi hr hn⟩
  | false =>
    cases hq : s.takesIrq with
    | true => exact ⟨_, step_eq_serviceIrq hr hn hq⟩
    | false => exact step_eq_exec hr hn hq ▸ hexec _ _

/-- Settles O10: in Stopped a step is the fault, and in Running it answers a next state. -/
theorem stoppedStepIsStuck : Obligations.StoppedStepIsStuck := by
  have hstopped {s : State} {op : Byte} (h : s.rs = .stopped op) : step s = .fault (.stopped op) := by
    simp [step, stepEvent, h]
  have hrunning := everyInstructionAnswersANextState.2
  refine ⟨fun s r => ⟨fun h => ?_, ?_⟩, fun s r h => ?_⟩
  · cases hr : s.rs with
    | running =>
      obtain ⟨t, ht⟩ := hrunning s hr
      cases h.symm.trans ht
    | stopped op =>
      cases h.symm.trans (hstopped hr)
      exact ⟨op, rfl, rfl⟩
  · rintro ⟨op, hr, rfl⟩
    exact hstopped hr
  · cases hr : s.rs with
    | running =>
      obtain ⟨t, ht⟩ := hrunning s hr
      cases h.symm.trans ht
    | stopped op => cases h.symm.trans (hstopped hr)

/-- Settles O56: the cycles of an effect. -/
theorem documentedInstructionsTakeTwoToSevenCycles : Obligations.DocumentedInstructionsTakeTwoToSevenCycles := by
  intro i s t hmn h
  rcases exec_cases i s with ⟨_, u, k, heffect⟩ | ⟨op, rfl, -, -⟩
  · obtain rfl := Host.Outcome.next.inj (h.symm.trans heffect.exec_eq)
    exact heffect.cycles
  · exact absurd rfl hmn

/-- Settles O51: an effect writes memory through its accesses alone, and those write the cells listed. -/
theorem storesReachOnlyTheComputedCells : Obligations.StoresReachOnlyTheComputedCells := by
  intro i s t h k hk
  rcases exec_cases i s with ⟨as, u, _, heffect⟩ | ⟨op, -, -, hstop⟩
  · obtain rfl := Host.Outcome.next.inj (h.symm.trans heffect.exec_eq)
    rw [finish_mem, heffect.run.mem_eq]
    exact writtenBy_read_other fun q hq hw => (hk _ (heffect.stores q hq hw)).symm
  · obtain rfl := Host.Outcome.next.inj (h.symm.trans hstop)
    rfl

section
variable {s t u : State} {as : List Access} {k : Nat}

/-- The port of a step holds the accesses of its run. -/
theorem StepEffect.port_eq (h : StepEffect s t as u k) : t.port = as := by
  rw [h.next_eq]
  exact h.run.port_eq

theorem StepEffect.mem_eq (h : StepEffect s t as u k) : t.mem = writtenBy s.mem t.port := by
  rw [h.port_eq, h.next_eq]
  exact h.run.mem_eq

end

/-- Settles O54: the port holds the run's accesses. -/
theorem stepMakesAtMostSixAccesses : Obligations.StepMakesAtMostSixAccesses := by
  intro s t h
  obtain ⟨as, u, k, heffect⟩ := step_effect h
  exact heffect.port_eq ▸ heffect.length_le

/-- Settles O52: memory is what the run's accesses wrote, and the history grew when the step began. -/
theorem memoryChangesOnlyThroughThePort : Obligations.MemoryChangesOnlyThroughThePort := by
  intro s t h
  obtain ⟨as, u, k, heffect⟩ := step_effect h
  refine ⟨heffect.mem_eq, ?_, fun k hk => ?_⟩
  · rw [heffect.next_eq]
    exact heffect.run.sameInputs.past
  · rw [heffect.mem_eq]
    exact writtenBy_read_other hk

/-- Settles O53: each read was answered in the state that the accesses before it led to. -/
theorem everyReadCarriesTheHostsAnswer : Obligations.EveryReadCarriesTheHostsAnswer := by
  intro s t h
  obtain ⟨as, u, k, heffect⟩ := step_effect h
  have hread {before after : List Access} {q : Access} (hport : t.port = before ++ q :: after)
      (hq : q.direction = .read) :
      (s.host = .plainRam → q.data = (writtenBy s.mem before).read q.addr.toNat) ∧
      (s.host = .general →
        q.data = Config.hostAnswer (writtenBy s.mem before) (s.past ++ s.port ++ before) q.addr) := by
    obtain ⟨v, hv, hdata⟩ := heffect.run.read_answered (heffect.port_eq ▸ hport) hq
    have hhost := hv.sameInputs.host
    have hmem := hv.mem_eq
    have hhistory : v.history = s.past ++ s.port ++ before := by
      rw [State.history, hv.sameInputs.past, hv.port_eq]
      rfl
    refine ⟨fun hram => ?_, fun hgeneral => ?_⟩
    · rw [hdata, answer_plainRam (hhost.trans hram), hmem]
      rfl
    · rw [hdata, answer_general (hhost.trans hgeneral), hmem, hhistory]
      rfl
  refine ⟨fun before after q hport hq => hread hport hq, fun hram q hmem hq hother => ?_⟩
  obtain ⟨before, after, hport⟩ := List.append_of_mem hmem
  rw [(hread hport hq).1 hram]
  refine writtenBy_read_other fun p hp hw heq => ?_
  exact hother p (hport ▸ List.mem_append_left _ hp) hw (BitVec.eq_of_toNat_eq heq)

/-- Settles O55: a run leaves CYC alone, and the cycles spent are those reported. -/
theorem everyStepAddsItsReportedCycles : Obligations.EveryStepAddsItsReportedCycles := by
  intro s t h
  obtain ⟨as, u, k, heffect⟩ := step_effect h
  rw [heffect.next_eq]
  exact congrArg (· + k) heffect.run.sameInputs.cyc

/-- Settles O59: a run keeps the host's inputs, and it starts with the NMI latch clear. -/
theorem stepLeavesTheHostsInputsAlone : Obligations.StepLeavesTheHostsInputsAlone := by
  intro s t h
  obtain ⟨as, u, k, heffect⟩ := step_effect h
  have hsame := heffect.run.sameInputs
  rw [heffect.next_eq]
  exact ⟨hsame.irqLine, hsame.undocNop, hsame.host, hsame.draws, hsame.nmiPending⟩

/-- An undocumented opcode fetched is the byte at PC, alone (R97, R120). -/
theorem fetchInstr_eq_undoc {s : State} {op : Byte} (h : s.fetchInstr.1 = .undoc op) :
    isUndocumented op = true ∧ codeByte s 0 = op ∧ s.fetchInstr.2 = afterFetch s 1 := by
  have hfill : (formatOf (codeByte s 0)).fill (codeByte s 1) (codeByte s 2) = .undoc op := by
    rw [← h, fetchInstr_eq_fill]
  have hdec := decode_three (codeByte s 0) (codeByte s 1) (codeByte s 2)
  rw [hfill] at hdec
  obtain ⟨hwf, hwords⟩ := encodeOfDecodeIsTheWords _ _ _ hdec
  exact ⟨hwf, (List.cons.inj hwords).1, by rw [fetchInstr_snd, h]; rfl⟩

/-- Settles O60: a stop fetched an undocumented opcode, which is one byte. -/
theorem onlyUndocumentedOpcodesStopTheCore : Obligations.OnlyUndocumentedOpcodesStopTheCore := by
  intro s t op h hstopped
  obtain ⟨as, u, k, heffect⟩ := step_effect h
  rcases heffect.stop with hrun | ⟨op', hstops⟩
  · cases hrun.symm.trans hstopped
  · obtain ⟨hfetched, hstrap, rfl⟩ := hstops
    cases hstopped
    obtain ⟨hundoc, hbyte, hafter⟩ := fetchInstr_eq_undoc hfetched
    have hcells : fetchCells (begun s) 1 = [s.pc.toNat] := by
      simp [fetchCells, begun, Nat.mod_eq_of_lt s.pc.isLt]
    rw [hafter]
    refine ⟨hstrap, hundoc, ?_, ?_, rfl, rfl, ?_⟩
    · rw [← hbyte, codeByte, afterFetch_zero]
      exact answered_eq (begun s) s.pc
    · rw [afterFetch_succ, afterFetch_zero]
      rfl
    · rw [← hcells]
      rfl

/-- The invariant, part by part. -/
theorem inv_iff (s : State) :
    s.inv = true ↔ s.mem.wf = true ∧ s.cyclesElapsed ≤ s.cyc ∧
      ∀ op, s.rs = .stopped op → isUndocumented op = true ∧ s.undocNop = false := by
  cases hrs : s.rs with
  | running => simp [State.inv, hrs]
  | stopped op => simp [State.inv, hrs, and_assoc]

/-- Settles O46: writes keep memory canonical, the cycles reported were added to CYC, and a stop is on an undocumented
byte with the strap false. -/
theorem stepKeepsTheInvariant : Obligations.StepKeepsTheInvariant := by
  intro s t hinv h
  obtain ⟨as, u, k, heffect⟩ := step_effect h
  have hcyc := everyStepAddsItsReportedCycles s t h
  obtain ⟨-, hstrap, -⟩ := stepLeavesTheHostsInputsAlone s t h
  rw [inv_iff] at hinv ⊢
  refine ⟨?_, hcyc ▸ Nat.le_add_left _ _, fun op hstopped => ?_⟩
  · rw [heffect.mem_eq]
    exact writtenBy_wf _ hinv.1
  · obtain ⟨hnop, hundoc, -⟩ := onlyUndocumentedOpcodesStopTheCore s t op h hstopped
    exact ⟨hundoc, hstrap.trans hnop⟩

/-- Settles O47: RESET sets cycles and the run state afresh, a step keeps the invariant, an edge and a level are not in
it, and another chip's byte keeps memory canonical. -/
theorem everyHostEventKeepsTheInvariant : Obligations.EveryHostEventKeepsTheInvariant := by
  intro s t e hinv h
  cases e with
  | reset =>
    obtain ⟨t', ht', -, -, -, hrs, -, hcyc, hcycles, -, -, hmem, -⟩ := resetEventRunsTheResetSequence s
    obtain rfl := Host.Outcome.next.inj (h.symm.trans ht')
    rw [inv_iff] at hinv ⊢
    exact ⟨hmem ▸ hinv.1, by rw [hcyc, hcycles], by simp [hrs]⟩
  | step => exact stepKeepsTheInvariant s t hinv h
  | nmiEdge =>
    cases h
    exact hinv
  | irqLine level =>
    cases h
    exact hinv
  | memory w v =>
    cases h
    rw [inv_iff] at hinv ⊢
    exact ⟨Memory.wf_write hinv.1 w.isLt, hinv.2⟩

end Sys2Proof.Spec

/-! Which instructions write which register and flag (10_state.md sections 2 to 4): what each action leaves as it was,
said once per action, then per shape, and the two statements. -/

namespace Sys2Proof.Spec

open Machine

/-- The writers of N and of Z (R32). -/
def nzWriters : List Mnemonic :=
  [.lda, .ldx, .ldy, .adc, .sbc, .and, .ora, .eor, .asl, .lsr, .rol, .ror, .cmp, .cpx, .cpy,
    .inc, .dec, .inx, .dex, .iny, .dey, .pla, .tax, .tay, .txa, .tya, .tsx, .bit, .plp, .rti]

/-- The writers of V (R32). -/
def vWriters : List Mnemonic := [.adc, .sbc, .bit, .clv, .plp, .rti]

/-- The writers of D (R32). -/
def dWriters : List Mnemonic := [.sed, .cld, .plp, .rti]

/-- The writers of I (R32). -/
def iWriters : List Mnemonic := [.sei, .cli, .plp, .rti, .brk]

/-- The writers of C (R32). -/
def cWriters : List Mnemonic := [.adc, .sbc, .cmp, .cpx, .cpy, .asl, .lsr, .rol, .ror, .sec, .clc, .plp, .rti]

/-- The writers of A (R21). -/
def aWriters : List Mnemonic := [.lda, .adc, .sbc, .and, .ora, .eor, .pla, .txa, .tya, .asl, .lsr, .rol, .ror]

/-- The shifts, which write A in accumulator mode alone (R194). -/
def shifts : List Mnemonic := [.asl, .lsr, .rol, .ror]

/-- The writers of X (R22). -/
def xWriters : List Mnemonic := [.ldx, .tax, .tsx, .inx, .dex]

/-- The writers of Y (R22). -/
def yWriters : List Mnemonic := [.ldy, .tay, .iny, .dey]

/-- The writers of S (R23). -/
def sWriters : List Mnemonic := [.pha, .pla, .php, .plp, .txs, .jsr, .rts, .brk, .rti]

/-- The writers of PC besides its advance past the instruction (R25, R27). -/
def pcWriters : List Mnemonic :=
  [.bpl, .bmi, .bvc, .bvs, .bcc, .bcs, .bne, .beq, .jmp, .jsr, .rts, .brk, .rti]

/-- From `old` to `new` an instruction of the mnemonic and mode changed only the flags and registers it is listed for. A
field not given where one is built is one that did not change. -/
structure Kept (mn : Mnemonic) (mode : Mode) (old new : State) : Prop where
  n : mn ∉ nzWriters → new.n = old.n := by exact fun _ => rfl
  v : mn ∉ vWriters → new.v = old.v := by exact fun _ => rfl
  d : mn ∉ dWriters → new.d = old.d := by exact fun _ => rfl
  i : mn ∉ iWriters → new.i = old.i := by exact fun _ => rfl
  z : mn ∉ nzWriters → new.z = old.z := by exact fun _ => rfl
  c : mn ∉ cWriters → new.c = old.c := by exact fun _ => rfl
  a : mn ∉ aWriters → new.a = old.a := by exact fun _ => rfl
  aOfShift : mn ∈ shifts → mode ≠ .acc → new.a = old.a := by exact fun _ _ => rfl
  x : mn ∉ xWriters → new.x = old.x := by exact fun _ => rfl
  y : mn ∉ yWriters → new.y = old.y := by exact fun _ => rfl
  s : mn ∉ sWriters → new.s = old.s := by exact fun _ => rfl
  pc : mn ∉ pcWriters → new.pc = old.pc := by exact fun _ => rfl

theorem Kept.trans {mn : Mnemonic} {mode : Mode} {s t u : State} (h : Kept mn mode s t) (h' : Kept mn mode t u) :
    Kept mn mode s u where
  n hmn := (h'.n hmn).trans (h.n hmn)
  v hmn := (h'.v hmn).trans (h.v hmn)
  d hmn := (h'.d hmn).trans (h.d hmn)
  i hmn := (h'.i hmn).trans (h.i hmn)
  z hmn := (h'.z hmn).trans (h.z hmn)
  c hmn := (h'.c hmn).trans (h.c hmn)
  a hmn := (h'.a hmn).trans (h.a hmn)
  aOfShift hmn hmode := (h'.aOfShift hmn hmode).trans (h.aOfShift hmn hmode)
  x hmn := (h'.x hmn).trans (h.x hmn)
  y hmn := (h'.y hmn).trans (h.y hmn)
  s hmn := (h'.s hmn).trans (h.s hmn)
  pc hmn := (h'.pc hmn).trans (h.pc hmn)

/-- The mnemonic is listed, so nothing is claimed. -/
theorem listed {mn : Mnemonic} {writers : List Mnemonic} {p : Prop} (h : mn ∈ writers := by decide) :
    mn ∉ writers → p :=
  fun hmn => absurd h hmn

/-- The mnemonic is no shift, so nothing is claimed. -/
theorem no_shift {mn : Mnemonic} {p : Prop} (h : mn ∉ shifts := by decide) : mn ∈ shifts → p :=
  fun hmn => absurd hmn h

theorem ReadAction.kept {mn : Mnemonic} {act : State → Byte → State} (h : ReadAction mn act) (mode : Mode) (t : State)
    (m : Byte) : Kept mn mode t (act t m) := by
  cases h with
  | lda => exact { a := listed, aOfShift := no_shift, n := listed, z := listed }
  | ldx => exact { x := listed, n := listed, z := listed }
  | ldy => exact { y := listed, n := listed, z := listed }
  | adc => exact { a := listed, aOfShift := no_shift, n := listed, v := listed, z := listed, c := listed }
  | sbc => exact { a := listed, aOfShift := no_shift, n := listed, v := listed, z := listed, c := listed }
  | and => exact { a := listed, aOfShift := no_shift, n := listed, z := listed }
  | ora => exact { a := listed, aOfShift := no_shift, n := listed, z := listed }
  | eor => exact { a := listed, aOfShift := no_shift, n := listed, z := listed }
  | bit => exact { n := listed, v := listed, z := listed }
  | cmp => exact { n := listed, z := listed, c := listed }
  | cpx => exact { n := listed, z := listed, c := listed }
  | cpy => exact { n := listed, z := listed, c := listed }

theorem ModifyAction.kept {mn : Mnemonic} {f : State → Byte → Byte} {act : State → State → Byte → Byte → State}
    (h : ModifyAction mn f act) (mode : Mode) (s t : State) (v r : Byte) : Kept mn mode t (act s t v r) := by
  cases h with
  | step f hmn =>
    have hnz : mn ∈ nzWriters := by
      revert hmn
      cases mn <;> decide
    exact { n := listed hnz, z := listed hnz }
  | shift f hmn =>
    have hnz : mn ∈ nzWriters := by
      revert hmn
      cases mn <;> decide
    have hc : mn ∈ cWriters := by
      revert hmn
      cases mn <;> decide
    exact { n := listed hnz, z := listed hnz, c := listed hc }

theorem RegAction.kept {i : Instr} {act : State → State} (h : RegAction i act) (s : State) :
    Kept i.mnemonic i.mode s (act s) := by
  cases h with
  | inx => exact { x := listed, n := listed, z := listed }
  | dex => exact { x := listed, n := listed, z := listed }
  | iny => exact { y := listed, n := listed, z := listed }
  | dey => exact { y := listed, n := listed, z := listed }
  | tsx => exact { x := listed, n := listed, z := listed }
  | txs => exact { s := listed }
  | tax => exact { x := listed, n := listed, z := listed }
  | tay => exact { y := listed, n := listed, z := listed }
  | txa => exact { a := listed, aOfShift := no_shift, n := listed, z := listed }
  | tya => exact { a := listed, aOfShift := no_shift, n := listed, z := listed }
  | clc => exact { c := listed }
  | sec => exact { c := listed }
  | cli => exact { i := listed }
  | sei => exact { i := listed }
  | cld => exact { d := listed }
  | sed => exact { d := listed }
  | clv => exact { v := listed }
  | nop => exact {}
  | asl => exact { a := listed, aOfShift := fun _ hacc => absurd rfl hacc, n := listed, z := listed, c := listed }
  | lsr => exact { a := listed, aOfShift := fun _ hacc => absurd rfl hacc, n := listed, z := listed, c := listed }
  | rol => exact { a := listed, aOfShift := fun _ hacc => absurd rfl hacc, n := listed, z := listed, c := listed }
  | ror => exact { a := listed, aOfShift := fun _ hacc => absurd rfl hacc, n := listed, z := listed, c := listed }

theorem BranchOn.mem_pcWriters {i : Instr} {cond : State → Bool} {off : Byte} (h : BranchOn i cond off) :
    i.mnemonic ∈ pcWriters := by
  cases h <;> simp [Instr.mnemonic, pcWriters]

/-- The resolver and an operand's read write no register and no flag. -/
theorem kept_resolve (mn : Mnemonic) (mode : Mode) (s : State) (m : MemMode) : Kept mn mode s (s.resolve m).after := by
  rw [resolve_after]
  exact {}

theorem kept_operand (mn : Mnemonic) (mode : Mode) (s : State) (src : Source) :
    Kept mn mode s (s.operand src).after := by
  rw [operand_after]
  exact {}

theorem kept_afterRead (mn : Mnemonic) (mode : Mode) (s : State) (w : Addr) : Kept mn mode s (s.afterRead w) := {}

theorem kept_memWrite (mn : Mnemonic) (mode : Mode) (s : State) (w : Addr) (v : Byte) :
    Kept mn mode s (s.memWrite w v) := {}

theorem kept_setPc {mn : Mnemonic} (h : mn ∈ pcWriters) (mode : Mode) (s : State) (w : Addr) :
    Kept mn mode s (s.setPc w) := { pc := listed h }

theorem kept_push {mn : Mnemonic} (h : mn ∈ sWriters) (mode : Mode) (s : State) (v : Byte) :
    Kept mn mode s (s.push v) := { s := listed h }

theorem kept_pull {mn : Mnemonic} (h : mn ∈ sWriters) (mode : Mode) (s : State) : Kept mn mode s s.pull.2 :=
  { s := listed h }

theorem kept_setI {mn : Mnemonic} (h : mn ∈ iWriters) (mode : Mode) (s : State) (b : Bool) :
    Kept mn mode s (s.setI b) := { i := listed h }

theorem kept_jumpVector {mn : Mnemonic} (h : mn ∈ pcWriters) (mode : Mode) (s : State) (vec : Addr) :
    Kept mn mode s (s.jumpVector vec) := by
  rw [jumpVector_eq]
  exact { pc := listed h }

/-- Unpacking is for the two mnemonics that are listed for every flag. -/
theorem kept_unpack {mn : Mnemonic} (h : mn ∈ [.plp, .rti]) (mode : Mode) (s : State) (p : Byte) :
    Kept mn mode s (s.unpack p) := by
  simp only [List.mem_cons, List.not_mem_nil, or_false] at h
  rcases h with rfl | rfl
  · exact { n := listed, v := listed, d := listed, i := listed, z := listed, c := listed }
  · exact { n := listed, v := listed, d := listed, i := listed, z := listed, c := listed }

/-- An entry writes what BRK is listed for: I, S and PC (R307). -/
theorem kept_interrupt (mode : Mode) (s : State) (vec : Addr) (b : Bool) (ret : Addr) :
    Kept .brk mode s (s.interrupt vec b ret) := by
  have hs : Mnemonic.brk ∈ sWriters := by decide
  have haddr := (kept_push hs mode s (hiByte ret)).trans (kept_push hs _ _ (loByte ret))
  have hpushes := haddr.trans (kept_push hs _ _ (s.pack b))
  exact (hpushes.trans (kept_setI (by decide) _ _ true)).trans (kept_jumpVector (by decide) _ _ vec)

theorem kept_finish (mn : Mnemonic) (mode : Mode) (s : State) (k : Nat) : Kept mn mode s (s.finish k) := {}

/-- Every instruction keeps what it is not listed for. -/
theorem exec_kept {i : Instr} {s t : State} (h : exec i s = .next t) : Kept i.mnemonic i.mode s t := by
  cases shape i with
  | read src base pen haction _ hexec =>
    cases h.symm.trans (hexec s)
    exact ((kept_operand _ _ s src).trans (haction.kept _ _ _)).trans (kept_finish _ _ _ _)
  | write m base _ _ _ hexec =>
    cases h.symm.trans (hexec s)
    exact ((kept_resolve _ _ s m).trans (kept_memWrite _ _ _ _ _)).trans (kept_finish _ _ _ _)
  | modify m base haction _ _ _ hexec =>
    cases h.symm.trans (hexec s)
    exact ((((kept_resolve _ _ s m).trans (kept_afterRead _ _ _ _)).trans (kept_memWrite _ _ _ _ _)).trans
      (haction.kept _ s _ _ _)).trans (kept_finish _ _ _ _)
  | reg haction =>
    cases h.symm.trans (haction.exec_eq s)
    exact (haction.kept s).trans (kept_finish _ _ _ _)
  | branch hcond =>
    cases h.symm.trans (hcond.exec_eq s)
    rw [branch_eq]
    exact { pc := listed hcond.mem_pcWriters }
  | jmpAbs w =>
    cases h
    have hpc : (Instr.jmpAbs w).mnemonic ∈ pcWriters := by simp [Instr.mnemonic, pcWriters]
    exact ((kept_resolve _ _ s (.abs w)).trans (kept_setPc hpc _ _ _)).trans (kept_finish _ _ _ _)
  | jmpInd w =>
    cases h
    have hpc : (Instr.jmpInd w).mnemonic ∈ pcWriters := by simp [Instr.mnemonic, pcWriters]
    exact ((kept_resolve _ _ s (.ind w)).trans (kept_setPc hpc _ _ _)).trans (kept_finish _ _ _ _)
  | jsr w =>
    cases h
    have hs : (Instr.jsr w).mnemonic ∈ sWriters := by simp [Instr.mnemonic, sWriters]
    have hpc : (Instr.jsr w).mnemonic ∈ pcWriters := by simp [Instr.mnemonic, pcWriters]
    exact (((kept_push hs _ s _).trans (kept_push hs _ _ _)).trans (kept_setPc hpc _ _ _)).trans (kept_finish _ _ _ _)
  | rts =>
    cases h
    have hs : Instr.rts.mnemonic ∈ sWriters := by decide
    exact (((kept_pull hs _ s).trans (kept_pull hs _ _)).trans (kept_setPc (by decide) _ _ _)).trans
      (kept_finish _ _ _ _)
  | pha =>
    cases h
    exact (kept_push (by decide) _ s _).trans (kept_finish _ _ _ _)
  | php =>
    cases h
    exact (kept_push (by decide) _ s _).trans (kept_finish _ _ _ _)
  | pla =>
    cases h
    exact ((kept_pull (by decide) _ s).trans { a := listed, aOfShift := no_shift, n := listed, z := listed }).trans
      (kept_finish _ _ (s.pull.2.loadA s.pull.1) _)
  | plp =>
    cases h
    exact ((kept_pull (by decide) _ s).trans (kept_unpack (by decide) _ _ _)).trans (kept_finish _ _ _ _)
  | brk =>
    cases h
    exact (kept_interrupt _ s irqVector true (s.pc + 1)).trans (kept_finish _ _ _ 7)
  | rti =>
    cases h
    have hs : Instr.rti.mnemonic ∈ sWriters := by decide
    have hflags := (kept_pull hs Instr.rti.mode s).trans (kept_unpack (by decide) _ _ s.pull.1)
    exact (((hflags.trans (kept_pull hs _ _)).trans (kept_pull hs _ _)).trans (kept_setPc (by decide) _ _ _)).trans
      (kept_finish _ _ _ 6)
  | undoc op =>
    obtain ⟨hnop, hstop⟩ := undocumentedOpcodeByTheStrap s op
    rcases Bool.eq_false_or_eq_true s.undocNop with hs | hs
    · cases h.symm.trans (hnop hs)
      exact {}
    · cases h.symm.trans (hstop hs)
      exact {}

/-- Settles O49: the flags among what an instruction keeps. -/
theorem flagsChangeOnlyWhereTheListSays : Obligations.FlagsChangeOnlyWhereTheListSays :=
  fun _ _ _ h =>
    have hkept := exec_kept h
    ⟨hkept.n, hkept.v, hkept.d, hkept.i, hkept.z, hkept.c⟩

/-- Settles O50: the registers among what an instruction keeps. -/
theorem registersChangeOnlyWhereTheListSays : Obligations.RegistersChangeOnlyWhereTheListSays :=
  fun _ _ _ h =>
    have hkept := exec_kept h
    ⟨hkept.a, hkept.aOfShift, hkept.x, hkept.y, hkept.s, hkept.pc⟩

end Sys2Proof.Spec

/-! What no instruction reads (10_state.md section 6, 42_arithmetic.md section 3, 60_exceptions.md section 1): the cycle
counter, a masked irq_line, and D but for four mnemonics. One change of the three, carried through every shape and
through a step; then the statements. -/

namespace Sys2Proof.Spec

open Machine

/-- `s` with D, irq_line and CYC replaced. -/
def tweak (b l : Bool) (k : Nat) (s : State) : State := { s with d := b, irqLine := l, cyc := k }

/-- The mnemonics that read D: the arithmetic, and the two that push P (R30, R170). -/
def dReaders : List Mnemonic := [.adc, .sbc, .php, .brk]

theorem resolve_tweak (b l : Bool) (k : Nat) (s : State) (m : MemMode) :
    (tweak b l k s).resolve m = ⟨(s.resolve m).ea, (s.resolve m).crossed, tweak b l k (s.resolve m).after⟩ := by
  cases m <;> rfl

theorem operand_tweak (b l : Bool) (k : Nat) (s : State) (src : Source) :
    (tweak b l k s).operand src =
      ⟨(s.operand src).value, (s.operand src).crossed, tweak b l k (s.operand src).after⟩ := by
  cases src with
  | imm v => rfl
  | mem m =>
    rw [operand_mem, resolve_tweak]
    rfl

/-- A read-type action carries the change through, where D is not changed or not read. -/
theorem ReadAction.act_tweak {mn : Mnemonic} {act : State → Byte → State} (h : ReadAction mn act) {b : Bool} {t : State}
    (hd : mn ∉ dReaders ∨ b = t.d) (l : Bool) (k : Nat) (m : Byte) :
    act (tweak b l k t) m = tweak b l k (act t m) := by
  cases h with
  | adc =>
    obtain rfl := hd.resolve_left (absurd (by decide))
    rfl
  | sbc =>
    obtain rfl := hd.resolve_left (absurd (by decide))
    rfl
  | _ => rfl

theorem StoreSource.reg_tweak {mn : Mnemonic} {reg : State → Byte} (h : StoreSource mn reg) (b l : Bool) (k : Nat)
    (s : State) : reg (tweak b l k s) = reg s := by
  cases h <;> rfl

theorem ModifyAction.byte_tweak {mn : Mnemonic} {f : State → Byte → Byte} {act : State → State → Byte → Byte → State}
    (h : ModifyAction mn f act) (b l : Bool) (k : Nat) (s : State) : f (tweak b l k s) = f s := by
  cases h <;> rfl

theorem ModifyAction.act_tweak {mn : Mnemonic} {f : State → Byte → Byte} {act : State → State → Byte → Byte → State}
    (h : ModifyAction mn f act) (b l : Bool) (k : Nat) (s t : State) (v r : Byte) :
    act (tweak b l k s) (tweak b l k t) v r = tweak b l k (act s t v r) := by
  cases h <;> rfl

theorem BranchOn.cond_tweak {i : Instr} {cond : State → Bool} {off : Byte} (h : BranchOn i cond off) (b l : Bool)
    (k : Nat) (s : State) : cond (tweak b l k s) = cond s := by
  cases h <;> rfl

theorem branch_tweak (b l : Bool) (k : Nat) (s : State) (cond : Bool) (off : Byte) :
    (tweak b l k s).branch cond off =
      tweak b l (k + (s.branch cond off).cyclesElapsed) (s.branch cond off) := by
  simp only [branch_eq]
  rfl

theorem answer_tweak (b l : Bool) (k : Nat) (s : State) (w : Addr) : (tweak b l k s).answer w = s.answer w := rfl

theorem afterRead_tweak (b l : Bool) (k : Nat) (s : State) (w : Addr) :
    (tweak b l k s).afterRead w = tweak b l k (s.afterRead w) := rfl

theorem memWrite_tweak (b l : Bool) (k : Nat) (s : State) (w : Addr) (v : Byte) :
    (tweak b l k s).memWrite w v = tweak b l k (s.memWrite w v) := rfl

theorem push_tweak (b l : Bool) (k : Nat) (s : State) (v : Byte) :
    (tweak b l k s).push v = tweak b l k (s.push v) := rfl

theorem pull_tweak (b l : Bool) (k : Nat) (s : State) :
    (tweak b l k s).pull = (s.pull.1, tweak b l k s.pull.2) := rfl

theorem jumpVector_tweak (b l : Bool) (k : Nat) (s : State) (vec : Addr) :
    (tweak b l k s).jumpVector vec = tweak b l k (s.jumpVector vec) := rfl

/-- An entry pushes D, so it carries a change of the other two. -/
theorem interrupt_tweak (l : Bool) (k : Nat) (s : State) (vec : Addr) (b : Bool) (ret : Addr) :
    (tweak s.d l k s).interrupt vec b ret = tweak s.d l k (s.interrupt vec b ret) := by
  have hpack : (tweak s.d l k s).pack b = s.pack b := rfl
  rw [State.interrupt, State.pushAddr, hpack, push_tweak, push_tweak, push_tweak]
  exact jumpVector_tweak s.d l k (((s.pushAddr ret).push (s.pack b)).setI true) vec

theorem returnFromInterrupt_tweak (b l : Bool) (k : Nat) (s : State) :
    (tweak b l k s).returnFromInterrupt =
      tweak s.returnFromInterrupt.d l k s.returnFromInterrupt := by
  rw [State.returnFromInterrupt, pull_tweak]
  rfl

theorem exec_brk (s : State) : exec .brk s = .next ((s.interrupt irqVector true (s.pc + 1)).finish 7) := rfl

theorem exec_rti (s : State) : exec .rti s = .next (s.returnFromInterrupt.finish 6) := rfl

theorem finish_tweak (b l : Bool) (k : Nat) (s : State) (n : Nat) :
    (tweak b l k s).finish n = tweak b l (k + n) (s.finish n) := rfl

theorem RegAction.act_tweak {i : Instr} {act : State → State} (h : RegAction i act) (b l : Bool) (k : Nat) (s : State) :
    ∃ b', act (tweak b l k s) = tweak b' l k (act s) ∧ (b = s.d → b' = (act s).d) := by
  cases h with
  | cld => exact ⟨false, rfl, fun _ => rfl⟩
  | sed => exact ⟨true, rfl, fun _ => rfl⟩
  | _ => exact ⟨b, rfl, id⟩

/-- An instruction that keeps D answers alike after the change, with D, irq_line and CYC carried along. -/
theorem exec_tweak_of_kept {i : Instr} {s t : State} (h : exec i s = .next t) (hmn : i.mnemonic ∉ dWriters) {b l : Bool}
    {k : Nat} (hexec : exec i (tweak b l k s) = .next (tweak b l (k + t.cyclesElapsed) t)) :
    ∃ b', exec i (tweak b l k s) = .next (tweak b' l (k + t.cyclesElapsed) t) ∧ (b = s.d → b' = t.d) :=
  ⟨b, hexec, fun hb => hb.trans ((exec_kept h).d hmn).symm⟩

theorem ReadAction.not_mem_dWriters {mn : Mnemonic} {act : State → Byte → State} (h : ReadAction mn act) :
    mn ∉ dWriters := by
  cases h <;> decide

theorem StoreSource.not_mem_dWriters {mn : Mnemonic} {reg : State → Byte} (h : StoreSource mn reg) :
    mn ∉ dWriters := by
  cases h <;> decide

theorem ModifyAction.not_mem_dWriters {mn : Mnemonic} {f : State → Byte → Byte}
    {act : State → State → Byte → Byte → State} (h : ModifyAction mn f act) : mn ∉ dWriters := by
  cases h with
  | step f hmem =>
    revert hmem
    cases mn <;> decide
  | shift f hmem =>
    revert hmem
    cases mn <;> decide

theorem BranchOn.not_mem_dWriters {i : Instr} {cond : State → Bool} {off : Byte} (h : BranchOn i cond off) :
    i.mnemonic ∉ dWriters := by
  cases h <;> simp [Instr.mnemonic, dWriters]

theorem exec_undoc_tweak {op : Byte} {s t : State} (h : exec (.undoc op) s = .next t) (b l : Bool) (k : Nat) :
    exec (.undoc op) (tweak b l k s) = .next (tweak b l (k + t.cyclesElapsed) t) := by
  obtain ⟨hnop, hstop⟩ := undocumentedOpcodeByTheStrap s op
  obtain ⟨hnop', hstop'⟩ := undocumentedOpcodeByTheStrap (tweak b l k s) op
  rcases Bool.eq_false_or_eq_true s.undocNop with hs | hs
  · cases h.symm.trans (hnop hs)
    exact hnop' hs
  · cases h.symm.trans (hstop hs)
    exact hstop' hs

/-- An instruction answers alike after the change: what it left of D, or what it set D to, with irq_line and CYC carried
along. -/
theorem exec_tweak {i : Instr} {s t : State} (h : exec i s = .next t) {b : Bool} (hd : i.mnemonic ∉ dReaders ∨ b = s.d)
    (l : Bool) (k : Nat) :
    ∃ b', exec i (tweak b l k s) = .next (tweak b' l (k + t.cyclesElapsed) t) ∧ (b = s.d → b' = t.d) := by
  cases shape i with
  | read src base pen haction _ hexec =>
    refine exec_tweak_of_kept h haction.not_mem_dWriters ?_
    cases h.symm.trans (hexec s)
    have hd' : i.mnemonic ∉ dReaders ∨ b = (s.operand src).after.d := by
      rw [operand_after]
      exact hd
    rw [hexec, readType_eq, readType_eq, operand_tweak, haction.act_tweak hd']
    rfl
  | write m base hsource _ _ hexec =>
    refine exec_tweak_of_kept h hsource.not_mem_dWriters ?_
    cases h.symm.trans (hexec s)
    rw [hexec, writeType_eq, writeType_eq, resolve_tweak, hsource.reg_tweak]
    rfl
  | modify m base haction _ _ _ hexec =>
    refine exec_tweak_of_kept h haction.not_mem_dWriters ?_
    cases h.symm.trans (hexec s)
    rw [hexec, modifyType_eq, modifyType_eq, resolve_tweak, haction.byte_tweak]
    dsimp only
    rw [answer_tweak, afterRead_tweak, memWrite_tweak, haction.act_tweak, finish_tweak]
    rfl
  | reg haction =>
    cases h.symm.trans (haction.exec_eq s)
    obtain ⟨b', hact, hb'⟩ := haction.act_tweak b l k s
    exact ⟨b', by rw [haction.exec_eq, hact]; rfl, hb'⟩
  | branch hcond =>
    refine exec_tweak_of_kept h hcond.not_mem_dWriters ?_
    cases h.symm.trans (hcond.exec_eq s)
    rw [hcond.exec_eq, hcond.cond_tweak, branch_tweak]
  | jmpAbs w =>
    cases h
    exact ⟨b, rfl, id⟩
  | jmpInd w =>
    cases h
    exact ⟨b, rfl, id⟩
  | jsr w =>
    cases h
    exact ⟨b, rfl, id⟩
  | rts =>
    cases h
    exact ⟨b, rfl, id⟩
  | pha =>
    cases h
    exact ⟨b, rfl, id⟩
  | pla =>
    cases h
    exact ⟨b, rfl, id⟩
  | php =>
    obtain rfl := hd.resolve_left (absurd (by decide))
    cases h
    exact ⟨s.d, rfl, fun _ => rfl⟩
  | plp =>
    cases h
    exact ⟨_, rfl, fun _ => rfl⟩
  | brk =>
    obtain rfl := hd.resolve_left (absurd (by decide))
    refine exec_tweak_of_kept h (by decide) ?_
    obtain rfl := Host.Outcome.next.inj (h.symm.trans (exec_brk s))
    have hpc : (tweak s.d l k s).pc = s.pc := rfl
    rw [exec_brk, hpc, interrupt_tweak, finish_tweak]
    rfl
  | rti =>
    obtain rfl := Host.Outcome.next.inj (h.symm.trans (exec_rti s))
    exact ⟨_, by rw [exec_rti, returnFromInterrupt_tweak, finish_tweak]; rfl, fun _ => rfl⟩
  | undoc op => exact exec_tweak_of_kept h (by simp [Instr.mnemonic, dWriters]) (exec_undoc_tweak h b l k)

theorem fetchByte_tweak (b l : Bool) (k : Nat) (s : State) :
    (tweak b l k s).fetchByte = (s.fetchByte.1, tweak b l k s.fetchByte.2) := rfl

theorem fetchInstr_tweak (b l : Bool) (k : Nat) (s : State) :
    (tweak b l k s).fetchInstr = (s.fetchInstr.1, tweak b l k s.fetchInstr.2) := by
  simp only [State.fetchInstr, fetchByte_tweak]
  cases formatOf s.fetchByte.1 <;> rfl

/-! ### A step after the change -/

theorem serviceNmi_tweak (l : Bool) (k : Nat) (s : State) :
    (tweak s.d l k s).serviceNmi = tweak s.d l (k + 7) s.serviceNmi := by
  have hentry := interrupt_tweak l k { s with nmiPending := false } nmiVector false s.pc
  exact (congrArg (State.finish · 7) hentry).trans (finish_tweak ..)

theorem serviceIrq_tweak (l : Bool) (k : Nat) (s : State) :
    (tweak s.d l k s).serviceIrq = tweak s.d l (k + 7) s.serviceIrq := by
  have hpc : (tweak s.d l k s).pc = s.pc := rfl
  rw [State.serviceIrq, hpc, interrupt_tweak, finish_tweak]
  rfl

theorem serviceNmi_d (s : State) : s.serviceNmi.d = s.d :=
  (kept_interrupt .imp { s with nmiPending := false } nmiVector false s.pc).d (by decide)

theorem serviceIrq_d (s : State) : s.serviceIrq.d = s.d := (kept_interrupt .imp s irqVector false s.pc).d (by decide)

/-- Interrupts are taken alike where irq_line is masked or the same (R303). -/
theorem takesIrq_tweak {s : State} {l : Bool} (hl : s.i = true ∨ l = s.irqLine) (b : Bool) (k : Nat) :
    (tweak b l k s).takesIrq = s.takesIrq := by
  rcases hl with hi | rfl
  · simp [State.takesIrq, tweak, hi]
  · rfl

/-- A step answers alike after a change of CYC, and of irq_line where it is masked. -/
theorem step_tweak {s t : State} (h : step s = .next t) {l : Bool} (hl : s.i = true ∨ l = s.irqLine) (k : Nat) :
    step (tweak s.d l k s) = .next (tweak t.d l (k + t.cyclesElapsed) t) := by
  have htakes := takesIrq_tweak hl s.d k
  have hbegin : (tweak s.d l k s).beginStep = tweak s.beginStep.d l k s.beginStep := rfl
  obtain ⟨hr, ⟨hn, rfl⟩ | ⟨hn, hq, rfl⟩ | ⟨hn, hq, hexec⟩⟩ := step_cases h
  · rw [step_eq_serviceNmi (s := tweak s.d l k s) hr hn, hbegin, serviceNmi_tweak, serviceNmi_d,
      show s.beginStep.serviceNmi.cyclesElapsed = 7 from rfl]
  · rw [step_eq_serviceIrq (s := tweak s.d l k s) hr hn (htakes.trans hq), hbegin, serviceIrq_tweak, serviceIrq_d,
      show s.beginStep.serviceIrq.cyclesElapsed = 7 from rfl]
  · have hd : s.beginStep.d = s.beginStep.fetchInstr.2.d := by
      rw [fetchInstr_snd]
      rfl
    obtain ⟨b', hexec', hb'⟩ := exec_tweak hexec (.inr hd) l k
    rw [step_eq_exec (s := tweak s.d l k s) hr hn (htakes.trans hq), hbegin, fetchInstr_tweak, hexec', hb' hd]

/-! ### The statements -/

/-- Settles O9: irq_line changed where it is masked, and CYC not. -/
theorem maskedIrqLineHasNoEffect : Obligations.MaskedIrqLineHasNoEffect := by
  intro s t level hi h
  have hcyc := everyStepAddsItsReportedCycles s t h
  have hstep := step_tweak h (l := level) (.inl hi) s.cyc
  rw [← hcyc] at hstep
  exact hstep

/-- Settles O57: CYC changed, and irq_line not. -/
theorem noStepReadsTheCycleCounter : Obligations.NoStepReadsTheCycleCounter := by
  intro s t k h
  obtain ⟨hirq, -⟩ := stepLeavesTheHostsInputsAlone s t h
  refine (step_tweak h (.inr rfl) k).trans ?_
  rw [← hirq]
  rfl

/-- An instruction keeps irq_line and adds the cycles it reports to CYC (R350). -/
theorem exec_irqLine_cyc {i : Instr} {s t : State} (h : exec i s = .next t) :
    t.irqLine = s.irqLine ∧ t.cyc = s.cyc + t.cyclesElapsed := by
  rcases exec_cases i s with ⟨_, u, k, heffect⟩ | ⟨op, -, -, hstop⟩
  · obtain rfl := Host.Outcome.next.inj (h.symm.trans heffect.exec_eq)
    have hsame := heffect.run.sameInputs
    exact ⟨hsame.irqLine, congrArg (· + k) hsame.cyc⟩
  · obtain rfl := Host.Outcome.next.inj (h.symm.trans hstop)
    exact ⟨rfl, rfl⟩

/-- Settles O58: D changed, and the other two not. -/
theorem decimalFlagAffectsOnlyAdcAndSbc : Obligations.DecimalFlagAffectsOnlyAdcAndSbc := by
  intro i s t b hmn h
  obtain ⟨hirq, hcyc⟩ := exec_irqLine_cyc h
  obtain ⟨b', hexec, -⟩ := exec_tweak h (b := b) (.inl hmn) s.irqLine s.cyc
  refine ⟨_, hexec, ?_⟩
  rw [← hirq, ← hcyc]
  rfl

end Sys2Proof.Spec
